-- ==== Sys2Proof/Word.lean ====
section
/-! DEFINITION. Words of the FQ418: bytes, beats, addresses, counts (01_memory_map_and_banks.md R1, R2; R15), ports and
bank rows by name (00_scope.md, R5, R6). -/

namespace Sys2Proof

/-- One byte, of memory or of the management link. -/
abbrev Byte := BitVec 8

/-- A beat as a number: lane 0 is its least significant byte (R1). -/
abbrev Beat := BitVec 64

/-- A 32-bit byte address (R2). -/
abbrev Address := BitVec 32

/-- A cycle count, 0 to 65535, wrapping (R15). -/
abbrev CycleCount := BitVec 16

/-- The tag an initiator gives a request, 0 to 15 (R154). -/
abbrev Tag := BitVec 4

/-- An initiator port, 0 to 3. -/
abbrev PortId := Fin 4

/-- A bank, by the name of its grid row (R5, R6). With split mode off, bank LC is `lc0` and bank UC is `uc0`. -/
inductive Bank where
  | lc0 | lc1 | uc0 | uc1
deriving DecidableEq, Repr

end Sys2Proof
end

