-- ==== Sys2Proof/Syntax.lean ====
section
/-! DEFINITION. The commands of the FQ418: one constructor for each row of spec/opcode_table.json, in the table's order, with the
row's operands. A management command carries its frame's argument bytes and check byte as they are sent (12_formats_and_signals.md
Table 12-5, R173, R174); log entries 1, 3, 4, 13, 15 and 17 say what the operands stand for. -/

namespace Sys2Proof

/-- The kind of a request (R154). -/
inductive RequestKind where
  | read | write | swap | fetchAdd
deriving DecidableEq, Repr

/-- A request message as the request channel carries it (Table 12-1): eight beat positions of enables and data. -/
structure RequestMessage where
  kind    : RequestKind
  tag     : Tag
  address : Address
  length  : BitVec 4
  enables : Vector (BitVec 8) 8
  data    : Vector Beat 8
deriving DecidableEq, Repr

/-- When a drain check that only counts is taken at a boundary (R133; log entry 4): with the slot end, before every expiry of
that boundary, or after the expiries that are named before the next slot start. -/
inductive DrainCheckOrder where
  | checkFirst | checkAfterExpiry
deriving DecidableEq, Repr

/-- One command: a row of the table. -/
inductive Instr where
  /-- RESET_N is asserted (R187). -/
  | powerOnReset
  /-- RESET_N is released (R12). -/
  | resetNRelease
  /-- PRSTn is asserted (R170). -/
  | portReset (port : PortId)
  /-- PRSTn is released (R171). -/
  | portResetRelease (port : PortId)
  /-- A request is presented on a request channel and taken if the gate is open (R153, R159, R161). -/
  | acceptance (port : PortId) (message : RequestMessage)
  /-- A handshake on a response channel (R155). -/
  | responseTransfer (port : PortId)
  /-- The slot timer starts a slot (R20). -/
  | slotStart
  /-- The slot timer ends the slot in progress (R12, R13). -/
  | slotEnd (check : DrainCheckOrder)
  /-- At the slot end, the result of a granted READ is handed back (R61). -/
  | readComplete (bank : Bank)
  /-- At the slot end, a granted WRITE completes (R62). -/
  | writeComplete (bank : Bank)
  /-- At the first slot end of a pair, the atomic's read is handed back (R45). -/
  | atomicReadComplete (bank : Bank)
  /-- At the second slot end of a pair, the atomic ends (R46, R47). -/
  | atomicPairEnd (bank : Bank)
  /-- At the slot end, a performed SECONDARY-WRITE completes (R80). -/
  | secondaryWriteComplete (bank : Bank)
  /-- At the slot end, a performed RECOVERY-READ completes (R86, R87). -/
  | recoveryReadComplete (bank : Bank)
  /-- Every entry that has passed the wait limit of its port expires, in each port of `turns` (R66); `turns` orders the expiries among
  these ports. -/
  | timeout (turns : List PortId)
  /-- The commit controller makes the swap that is due (R129); `turns` orders the NO-LINK completions among ports. -/
  | swapped (turns : List PortId)
  /-- The commit controller gives up the drain that is past its limit (R132). -/
  | abandoned
  /-- The slot end at which a pending truncation falls (R147). -/
  | truncation (check : DrainCheckOrder)
  /-- The slot end at which a forced boundary falls (R16). -/
  | forcedBoundary
  /-- The sync unit loses its lock at the boundary just taken (R149). -/
  | syncLost
  /-- A rising edge of SYNC (R144). -/
  | syncPulse
  /-- A rising edge of STROBE (R151). -/
  | strobeEdge
  /-- The management select is released (R173). -/
  | selectRelease
  /-- A complete code byte that names no command (R173). -/
  | badCommand (code : Byte)
  | readStatus (check : Byte)
  | readFault (check : Byte)
  | readCapture (check : Byte)
  | captureNow (check : Byte)
  | writeGrid (row position code check : Byte)
  | writeRegion (index : Byte) (image : Vector Byte 6) (check : Byte)
  | writeGeometry (image : Vector Byte 4) (check : Byte)
  | writePortLimit (port limit check : Byte)
  | restage (check : Byte)
  | readPlan (plan item check : Byte)
  | commit (check : Byte)
  | cancelCommit (check : Byte)
  | setAlertMask (mask check : Byte)
  | setStrobe (setting check : Byte)
  | trafficReset (check : Byte)
  /-- The management select goes active (R173). -/
  | frameOpen
  /-- The last byte of a reply has been shifted out (R173). -/
  | replySpent
  /-- The memory device makes a stored byte parity-faulty, leaving `value` in it (R96). -/
  | memoryDeviceChange (address : Address) (value : Byte)
deriving DecidableEq, Repr

end Sys2Proof
end

