-- ==== Sys2Proof/Config.lean ====
section
/-! DEFINITION. What the FQ418 fixes in numbers, and the free values: the contents and parity state of memory the part has not
written (R96). -/

namespace Sys2Proof

/-- A completion list holds up to 8 entries (R157), and so does a request queue (R56). -/
def Config.completionCapacity : Nat := 8

/-- A mirror backlog never holds more than 8 entries counting reservations (R73). -/
def Config.backlogCapacity : Nat := 8

/-- The fault queue holds up to 16 records (R181). -/
def Config.faultCapacity : Nat := 16

/-- The capture FIFO holds up to 4 records (R151). -/
def Config.captureCapacity : Nat := 4

/-- Bytes in a region page (R107, Table 1-2). -/
def Config.pageBytes : Nat := 4096

/-- The largest memory any plan addresses, 128 MiB (R3). -/
def Config.memoryBytes : Nat := 0x8000000

/-- FREE VALUE (R96, log entry 7): the value of a byte the part has not written since the memory was powered. -/
opaque Config.unwrittenByte : Nat → Byte

/-- FREE VALUE (R96, log entry 7): whether a byte the part has not written is parity-faulty. -/
opaque Config.unwrittenFaulty : Nat → Bool

end Sys2Proof
end

