-- ==== Sys2Proof/Machine/Memory.lean ====
section
/-! DEFINITION. Memory (06 R96 to R99): for every byte a value and a parity state. The bytes the part has written, or the device has
changed, are listed in one canonical form; a byte not listed holds what the memory device holds, a free value. -/

namespace Sys2Proof.Machine

/-- Memory as plain data: the value of every byte that has been written or changed, by rising address, and the addresses of those
whose stored parity disagrees with the value, rising. -/
structure Memory where
  cells  : List Host.Cell
  faulty : List Nat
deriving DecidableEq, Repr

/-- Nothing listed. -/
def Memory.empty : Memory := ⟨[], []⟩

/-- The value listed for an address, if any. -/
def lookupCell (address : Nat) : List Host.Cell → Option Byte
  | [] => none
  | (a, v) :: rest => if a = address then some v else lookupCell address rest

/-- A list of cells with the cell at `address` given the value `v`, kept in rising order. -/
def insertCell (address : Nat) (v : Byte) : List Host.Cell → List Host.Cell
  | [] => [(address, v)]
  | (a, w) :: rest =>
    if address < a then (address, v) :: (a, w) :: rest
    else if address = a then (address, v) :: rest
    else (a, w) :: insertCell address v rest

/-- A rising list of addresses with one added. -/
def insertAddress (address : Nat) : List Nat → List Nat
  | [] => [address]
  | a :: rest =>
    if address < a then address :: a :: rest
    else if address = a then a :: rest
    else a :: insertAddress address rest

/-- The addresses other than one. -/
def eraseAddress (address : Nat) (l : List Nat) : List Nat := l.filter (· ≠ address)

/-- The value of a byte (R96). -/
def Memory.byteAt (m : Memory) (address : Nat) : Byte :=
  (lookupCell address m.cells).getD (Config.unwrittenByte address)

/-- Whether a byte is parity-faulty (R96). -/
def Memory.faultyAt (m : Memory) (address : Nat) : Bool :=
  match lookupCell address m.cells with
  | some _ => m.faulty.contains address
  | none => Config.unwrittenFaulty address

/-- The part writes a byte: the value with a parity bit that agrees with it (R96, R97). -/
def Memory.writeByte (m : Memory) (address : Nat) (v : Byte) : Memory :=
  ⟨insertCell address v m.cells, eraseAddress address m.faulty⟩

/-- The memory device changes a byte so that its stored parity disagrees with its value (R96). -/
def Memory.spoilByte (m : Memory) (address : Nat) (v : Byte) : Memory :=
  ⟨insertCell address v m.cells, insertAddress address m.faulty⟩

/-- The byte of lane `k` of a beat (R1). -/
def laneOf (d : Beat) (k : Nat) : Byte := d.extractLsb' (8 * k) 8

/-- The beat whose lanes are given, lane 0 first (R1). -/
def beatOfLanes (l : Nat → Byte) : Beat := l 7 ++ l 6 ++ l 5 ++ l 4 ++ l 3 ++ l 2 ++ l 1 ++ l 0

/-- One beat of a write: its eight byte enables and its data (R97). -/
structure WriteBeat where
  enables : BitVec 8
  data    : Beat
deriving DecidableEq, Repr

/-- Write the enabled lanes of one beat, lanes `k` and above still to come (R97). -/
def Memory.writeLanes (m : Memory) (address : Nat) (w : WriteBeat) : List Nat → Memory
  | [] => m
  | k :: rest =>
    (if w.enables.getLsbD k then m.writeByte (address + k) (laneOf w.data k) else m).writeLanes address w rest

/-- The eight lanes of a beat. -/
def allLanes : List Nat := [0, 1, 2, 3, 4, 5, 6, 7]

/-- Write one beat (R97). -/
def Memory.writeBeat (m : Memory) (address : Nat) (w : WriteBeat) : Memory := m.writeLanes address w allLanes

/-- Write the beats of an operation, first beat at the lowest address (R1, R97). -/
def Memory.writeBeats (m : Memory) (address : Nat) : List WriteBeat → Memory
  | [] => m
  | w :: rest => (m.writeBeat address w).writeBeats (address + 8) rest

/-- One beat read (R98). -/
def Memory.readBeat (m : Memory) (address : Nat) : Beat := beatOfLanes fun k => m.byteAt (address + k)

/-- The beats read, in request order (R98). -/
def Memory.readBeats (m : Memory) (address : Nat) : Nat → List Beat
  | 0 => []
  | n + 1 => m.readBeat address :: m.readBeats (address + 8) n

/-- Whether some byte of the `n` bytes from an address is parity-faulty. -/
def Memory.anyFaulty (m : Memory) (address : Nat) : Nat → Bool
  | 0 => false
  | n + 1 => m.faultyAt address || m.anyFaulty (address + 1) n

/-- The one parity-fault indication of a read of `length` beats: every lane of every beat is checked (R98). -/
def Memory.parityFault (m : Memory) (address length : Nat) : Bool := m.anyFaulty address (8 * length)

/-- Whether every address of a list lies above `bound`, rising. -/
def risingFrom (bound : Nat) : List Nat → Bool
  | [] => true
  | a :: rest => decide (bound < a) && risingFrom a rest

/-- Whether the addresses of a list rise strictly. -/
def rising : List Nat → Bool
  | [] => true
  | a :: rest => risingFrom a rest

/-- The canonical form: listed addresses rise strictly, parity-faulty addresses rise strictly and are listed. (A byte not listed reads
as a free value, so no listed cell is equal to one.) -/
def Memory.wf (m : Memory) : Bool :=
  rising (m.cells.map Prod.fst) && rising m.faulty && m.faulty.all fun a => (lookupCell a m.cells).isSome

end Sys2Proof.Machine
end

