-- ==== Sys2Proof/Machine/Plan.lean ====
section
/-! DEFINITION. The plan: slot codes and grid (02 R19), geometry (R121), region entries (07 R107), and the default plan (R39,
R108, R122). Tables with one value for each port or each bank. -/

namespace Sys2Proof.Machine

/-- One value for each port. -/
structure PerPort (α : Type) where
  p0 : α
  p1 : α
  p2 : α
  p3 : α
deriving DecidableEq, Repr

/-- One value for each bank row. -/
structure PerBank (α : Type) where
  lc0 : α
  lc1 : α
  uc0 : α
  uc1 : α
deriving DecidableEq, Repr

/-- The value of port `n`. -/
def PerPort.get {α : Type} (v : PerPort α) (n : PortId) : α :=
  match n with
  | 0 => v.p0
  | 1 => v.p1
  | 2 => v.p2
  | 3 => v.p3

/-- The table with port `n` given the value `x`. -/
def PerPort.set {α : Type} (v : PerPort α) (n : PortId) (x : α) : PerPort α :=
  match n with
  | 0 => { v with p0 := x }
  | 1 => { v with p1 := x }
  | 2 => { v with p2 := x }
  | 3 => { v with p3 := x }

/-- `f` applied to every port's value. -/
def PerPort.map {α β : Type} (f : α → β) (v : PerPort α) : PerPort β := ⟨f v.p0, f v.p1, f v.p2, f v.p3⟩

/-- `f` applied to every port with its value. -/
def PerPort.mapPort {α β : Type} (f : PortId → α → β) (v : PerPort α) : PerPort β :=
  ⟨f 0 v.p0, f 1 v.p1, f 2 v.p2, f 3 v.p3⟩

/-- The value of bank `b`. -/
def PerBank.get {α : Type} (v : PerBank α) (b : Bank) : α :=
  match b with
  | .lc0 => v.lc0
  | .lc1 => v.lc1
  | .uc0 => v.uc0
  | .uc1 => v.uc1

/-- The table with bank `b` given the value `x`. -/
def PerBank.set {α : Type} (v : PerBank α) (b : Bank) (x : α) : PerBank α :=
  match b with
  | .lc0 => { v with lc0 := x }
  | .lc1 => { v with lc1 := x }
  | .uc0 => { v with uc0 := x }
  | .uc1 => { v with uc1 := x }

/-- `f` applied to every bank's value. -/
def PerBank.map {α β : Type} (f : α → β) (v : PerBank α) : PerBank β := ⟨f v.lc0, f v.lc1, f v.uc0, f v.uc1⟩

/-- `f` applied to every bank with its value. -/
def PerBank.mapBank {α β : Type} (f : Bank → α → β) (v : PerBank α) : PerBank β :=
  ⟨f .lc0 v.lc0, f .lc1 v.lc1, f .uc0 v.uc0, f .uc1 v.uc1⟩

/-- The four ports in increasing order. -/
def allPorts : List PortId := [0, 1, 2, 3]

/-- The four rows in the order in which validation examines them (R55, R101). -/
def allBanks : List Bank := [.lc0, .lc1, .uc0, .uc1]

/-- A slot code (R19, Table 2-1). -/
inductive SlotCode where
  | port (n : PortId)
  | openSlot
  | mirror
  | refresh
  | idle
deriving DecidableEq, Repr

/-- One row of the grid: eight codes, positions 0 to 7 (R19). -/
structure Row where
  codes : Vector SlotCode 8
deriving DecidableEq, Repr

/-- The code at a position of a row. A row has no position above 7; nothing happens there. -/
def Row.codeAt (r : Row) (position : Nat) : SlotCode := r.codes.toList.getD position .idle

/-- The row with one code replaced. -/
def Row.setCode (r : Row) (position : Fin 8) (code : SlotCode) : Row := ⟨r.codes.set position code⟩

/-- Cycle length L: 4 or 8 slots (R13). -/
inductive CycleLength where
  | four | eight
deriving DecidableEq, Repr

/-- L as a number. -/
def CycleLength.slots : CycleLength → Nat
  | .four => 4
  | .eight => 8

/-- Memory size (R3). -/
inductive MemorySize where
  | mib64 | mib128
deriving DecidableEq, Repr

/-- The memory size in bytes (R3). -/
def MemorySize.bytes : MemorySize → Nat
  | .mib64 => 0x4000000
  | .mib128 => 0x8000000

/-- Memory kind (R100). -/
inductive MemoryKind where
  | static | dynamic
deriving DecidableEq, Repr

/-- The default region policy (R113). -/
inductive Policy where
  | allow | deny
deriving DecidableEq, Repr

/-- The four fields that form the geometry of a plan (R121). -/
structure Geometry where
  cycleLength : CycleLength
  split       : Bool
  size        : MemorySize
  kind        : MemoryKind
deriving DecidableEq, Repr

/-- A region entry (Table 7-1). Bit n of a port set stands for port n. -/
structure RegionEntry where
  enabled    : Bool
  basePage   : BitVec 16
  limitPage  : BitVec 16
  readPorts  : BitVec 4
  writePorts : BitVec 4
  mirror     : Bool
deriving DecidableEq, Repr

/-- A plan (Table 8-1). -/
structure Plan where
  grid          : PerBank Row
  geometry      : Geometry
  syncEnable    : Bool
  defaultPolicy : Policy
  drainLimit    : Nat
  waitLimits    : PerPort (BitVec 8)
  regions       : Vector RegionEntry 16
deriving DecidableEq, Repr

/-- The rows LC.0 and UC.0 of the default grid (R39). -/
def defaultUsedRow : Row :=
  ⟨#v[.openSlot, .openSlot, .openSlot, .openSlot, .openSlot, .openSlot, .openSlot, .refresh]⟩

/-- The rows LC.1 and UC.1 of the default grid (R39). -/
def defaultUnusedRow : Row := ⟨#v[.idle, .idle, .idle, .idle, .idle, .idle, .idle, .idle]⟩

/-- A region entry as it stands after power-on (R108). -/
def defaultRegion : RegionEntry := ⟨false, 0, 0, 0, 0, false⟩

/-- The default plan (R39, R108, Table 8-1). -/
def defaultPlan : Plan where
  grid := ⟨defaultUsedRow, defaultUnusedRow, defaultUsedRow, defaultUnusedRow⟩
  geometry := ⟨.eight, false, .mib64, .dynamic⟩
  syncEnable := false
  defaultPolicy := .allow
  drainLimit := 1024
  waitLimits := ⟨0, 0, 0, 0⟩
  regions := Vector.replicate 16 defaultRegion

end Sys2Proof.Machine
end

