-- ==== Sys2Proof/Machine/State.lean ====
section
/-! DEFINITION. The state of the FQ418, block by block (00_scope.md Table 0-1), as plain data, and its value right after reset. -/

namespace Sys2Proof.Machine

/-! ### Slot scheduler (02) -/

/-- The slot timer (R12): stopped while RESET_N is asserted; between the end of one slot and the start of the next; in a slot. -/
inductive SlotTimer where
  | stopped | starting | running
deriving DecidableEq, Repr

/-- The slot scheduler's state. RESET_N is asserted exactly while `timer` is `stopped` (R12, R187). -/
structure Scheduler where
  timer      : SlotTimer
  position   : Nat
  cycleCount : CycleCount
  pointers   : PerBank PortId
  forcedDue  : Bool
deriving DecidableEq, Repr

/-! ### Request queues (04) -/

/-- The two kinds of atomic (R40). -/
inductive AtomicKind where
  | swap | fetchAdd
deriving DecidableEq, Repr

/-- What a queue entry is to do: its kind, with the fields R57 gives that kind. -/
inductive Work where
  | read
  | write (beats : List WriteBeat)
  | atomic (kind : AtomicKind) (operand : Beat)
deriving DecidableEq, Repr

/-- The states of a queue entry (Table 4-1). -/
inductive EntryState where
  | waiting | inSlot | linked | recovering
deriving DecidableEq, Repr

/-- The atomic result of R57: the old value, and either the new value or the failed mark. -/
inductive AtomicResult where
  | good (oldValue newValue : Beat)
  | failed (oldValue : Beat)
deriving DecidableEq, Repr

/-- A queue entry (R57). `ref` is its completion reference (log entry 12). `expiring` is the model's own mark: the boundary just taken
found the entry past its wait limit and its expiry has not been taken yet (log entry 4). -/
structure QueueEntry where
  ref          : Nat
  work         : Work
  address      : Address
  length       : Nat
  bank         : Bank
  mirror       : Bool
  age          : Nat
  state        : EntryState
  atomicResult : Option AtomicResult
  expiring     : Bool
deriving DecidableEq, Repr

/-! ### Port front ends (10) -/

/-- The status of a response (Table 10-2). -/
inductive ResponseStatus where
  | ok | denied | range | malformed | noLink | timeout | dataFault
deriving DecidableEq, Repr

/-- What a DONE completion entry holds (R157). No data is the empty list. -/
structure CompletionResult where
  status    : ResponseStatus
  data      : List Beat
  recovered : Bool
deriving DecidableEq, Repr

/-- PENDING or DONE (R158). -/
inductive CompletionState where
  | pending
  | done (result : CompletionResult)
deriving DecidableEq, Repr

/-- A completion entry (R157), with the reference that ties a queue entry to it (R56, R57). -/
structure CompletionEntry where
  ref   : Nat
  tag   : Tag
  kind  : RequestKind
  state : CompletionState
deriving DecidableEq, Repr

/-- A port front end: its PRSTn line and its completion list, oldest first (R157, R170). -/
structure PortFrontEnd where
  resetLine   : Bool
  completions : List CompletionEntry
deriving DecidableEq, Repr

/-! ### Mirror units (05) -/

/-- The kind of a backlog entry with the fields of that kind (Table 5-1). -/
inductive BacklogWork where
  | secondaryWrite (beats : List WriteBeat)
  | recoveryRead (port : PortId) (ref : Nat)
deriving DecidableEq, Repr

/-- A backlog entry (Table 5-1). -/
structure BacklogEntry where
  work       : BacklogWork
  address    : Address
  length     : Nat
  performing : Bool
deriving DecidableEq, Repr

/-- A mirror backlog: its entries, oldest first, and its reservations (R73), and the places that a reset or a release has freed and that
count as free capacity from the next slot start (R78, R92). -/
structure Backlog where
  entries      : List BacklogEntry
  reservations : Nat
  freed        : Nat
deriving DecidableEq, Repr

/-! ### Bank sequencers (06) -/

/-- The fields of a granted request that the bank sequencer is handed and keeps (R32, R52), with the bank offset of its first beat that
the sequencer presents to memory (R9). -/
structure PortAccess where
  port    : PortId
  ref     : Nat
  address : Address
  offset  : Nat
  length  : Nat
  mirror  : Bool
deriving DecidableEq, Repr

/-- The operations of a bank sequencer (Table 6-1); a backlog entry is handed with the bank offset of its address (R33). -/
inductive Operation where
  | portRead (access : PortAccess)
  | portWrite (access : PortAccess) (beats : List WriteBeat)
  | atomicRead (access : PortAccess)
  | atomicWrite (access : PortAccess) (newValue : Beat)
  | secondaryWrite (offset : Nat) (beats : List WriteBeat)
  | recoveryRead (offset length : Nat) (port : PortId) (ref : Nat)
  | refresh
  | catchUpRefresh
deriving DecidableEq, Repr

/-- Which slot of its linked pair an atomic is in (R44). -/
inductive PairSlot where
  | first | second
deriving DecidableEq, Repr

/-- An atomic's two-slot performance on a bank (R44 to R47): what the sequencer keeps of it, the slot it is in, and the outcome of
its read once the first slot has ended. -/
structure AtomicPair where
  access  : PortAccess
  kind    : AtomicKind
  operand : Beat
  slot    : PairSlot
  result  : Option AtomicResult
deriving DecidableEq, Repr

/-- A bank sequencer: the operation in progress, the refresh debt flag (R95) and the atomic that holds the bank (R26). -/
structure Sequencer where
  operation : Option Operation
  debt      : Bool
  pair      : Option AtomicPair
deriving DecidableEq, Repr

/-! ### Plan store and commit controller (08) -/

/-- The commit states (8.4). -/
inductive CommitState where
  | none | waiting | draining
deriving DecidableEq, Repr

/-- Why validation fails, and where (Table 8-2, Table 8-4): a row, a row and a position, or a region index. -/
inductive PlanFailure where
  | noRefresh (row : Bank)
  | noTurnaround (row : Bank) (position : Nat)
  | regionOrder (index : Fin 16)
  | regionRange (index : Fin 16)
  | mirrorSpan (index : Fin 16)
deriving DecidableEq, Repr

/-- The outcome of a commit (Table 8-4); REFUSED carries its reason and location. -/
inductive CommitOutcome where
  | swapped
  | refused (failure : PlanFailure)
  | abandoned
  | cancelled
  | abortedByReset
deriving DecidableEq, Repr

/-- The commit result record (R140): the last outcome with its cycle count, absent until the first, and the unreported flag. -/
structure CommitRecord where
  last       : Option (CommitOutcome × CycleCount)
  unreported : Bool
deriving DecidableEq, Repr

/-- The plan store and commit controller (R121, R127). `reactionDue` is the model's own: a normal or truncated boundary has been
taken and the controller has not reacted to it yet (log entry 4). -/
structure CommitController where
  active      : Plan
  staged      : Plan
  state       : CommitState
  drainCount  : Nat
  record      : CommitRecord
  reactionDue : Bool
deriving DecidableEq, Repr

/-! ### Sync and capture unit (09) -/

/-- The sync states (R142). -/
inductive SyncState where
  | free | seeking | locked | lost
deriving DecidableEq, Repr

/-- What made a capture record (R151). -/
inductive CaptureSource where
  | strobe | command
deriving DecidableEq, Repr

/-- A capture record (R151). -/
structure CaptureRecord where
  cycleCount : CycleCount
  position   : Nat
  sync       : SyncState
  source     : CaptureSource
deriving DecidableEq, Repr

/-- The sync and capture unit (R142). `lostDue` is the model's own: the boundary just taken counted the second miss in a row and its
loss of lock has not been taken yet (log entry 4). -/
structure SyncUnit where
  state             : SyncState
  slipCount         : Nat
  missCount         : Nat
  truncationPending : Bool
  pulseMark         : Bool
  captures          : List CaptureRecord
  captureOverflow   : Bool
  lostDue           : Bool
deriving DecidableEq, Repr

/-! ### Management link controller (11) -/

/-- The states of the frame receiver (Table 11-1); REPLYING holds the bytes of the reply. -/
inductive Receiver where
  | idle | receiving
  | replying (reply : List Byte)
  | spent
deriving DecidableEq, Repr

/-- The kinds of a fault record (Table 11-3). -/
inductive FaultKind where
  | denied | range | malformed | noLink | timeout | dataFault | recovered | doubleFault | recoveryDropped
  | syncSlip | syncLost
deriving DecidableEq, Repr

/-- A fault record (Table 11-3); a field that may be absent is an Option. -/
structure FaultRecord where
  kind       : FaultKind
  port       : Option PortId
  tag        : Option Tag
  address    : Option Address
  bank       : Option Bank
  region     : Option (Fin 16)
  cycleCount : CycleCount
  position   : Nat
deriving DecidableEq, Repr

/-- The alert mask: one enable for each alert cause (R184). -/
structure AlertMask where
  fault   : Bool
  capture : Bool
  commit  : Bool
deriving DecidableEq, Repr

/-- The management link controller (11.1): the select line, the frame receiver, the fault queue and its overflow flag, the alert mask
and the strobe capture setting. -/
structure LinkController where
  selectActive  : Bool
  receiver      : Receiver
  faults        : List FaultRecord
  faultOverflow : Bool
  alertMask     : AlertMask
  strobeCapture : Bool
deriving DecidableEq, Repr

/-! ### The whole block -/

/-- The state of the FQ418 with its memory and the commands that wait, first in, first out. `nextRef` numbers the next completion
reference (log entry 12). -/
structure State where
  scheduler : Scheduler
  queues    : PerPort (List QueueEntry)
  ports     : PerPort PortFrontEnd
  mirrors   : PerBank Backlog
  banks     : PerBank Sequencer
  commit    : CommitController
  sync      : SyncUnit
  link      : LinkController
  memory    : Memory
  nextRef   : Nat
  pending   : List Instr
deriving DecidableEq, Repr

/-- Why the machine stops. -/
inductive Fault where
  /-- Raised by MEMORY_DEVICE_CHANGE at an address that no memory has, 128 MiB or above (R3, R96; log entry 15). Safe: the command is
  not well-formed, since no memory device holds such a byte. -/
  | memoryAbsent (address : Address)
deriving DecidableEq, Repr

/-- Why a command has no meaning. -/
inductive Refusal where
  /-- Raised by exec for a command that has no meaning yet, named as the table names it. Safe. No command is left without one. -/
  | notModelled (mnemonic : String)
deriving DecidableEq, Repr

/-- The slot scheduler after power-on (R12, R15, R37). -/
def resetScheduler : Scheduler := ⟨.starting, 0, 0, ⟨0, 0, 0, 0⟩, false⟩

/-- A port front end after power-on with its reset line deasserted (R172; log entry 11). -/
def resetPort : PortFrontEnd := ⟨false, []⟩

/-- A mirror backlog after power-on (R94). -/
def resetBacklog : Backlog := ⟨[], 0, 0⟩

/-- A bank sequencer after power-on (R104, R106). -/
def resetSequencer : Sequencer := ⟨none, false, none⟩

/-- The commit controller after power-on (R122, R127, R140). -/
def resetCommit : CommitController := ⟨defaultPlan, defaultPlan, .none, 0, ⟨none, false⟩, false⟩

/-- The sync and capture unit after power-on (R142). -/
def resetSync : SyncUnit := ⟨.free, 0, 0, false, false, [], false, false⟩

/-- The management link controller after power-on (R187) with select inactive (log entry 11). -/
def resetLink : LinkController := ⟨false, .idle, [], false, ⟨true, true, true⟩, false⟩

/-- The machine right after reset: RESET_N has been released and the first slot is about to start (R12; log entry 10). -/
def State.reset : State where
  scheduler := resetScheduler
  queues := ⟨[], [], [], []⟩
  ports := ⟨resetPort, resetPort, resetPort, resetPort⟩
  mirrors := ⟨resetBacklog, resetBacklog, resetBacklog, resetBacklog⟩
  banks := ⟨resetSequencer, resetSequencer, resetSequencer, resetSequencer⟩
  commit := resetCommit
  sync := resetSync
  link := resetLink
  memory := Memory.empty
  nextRef := 0
  pending := []

end Sys2Proof.Machine
end

