-- ==== Sys2Proof/Machine/Operands.lean ====
section
/-! DEFINITION. What the operands of the commands mean: the memory map of an address (01), the linked pairs of a grid (03 R42), the
region lookup (07), the fields of a request message (R188), and the byte layouts of the management link (12). -/

namespace Sys2Proof.Machine

/-! ### Rows and banks -/

/-- The partner bank (R10): the same suffix in the other channel. -/
def partnerBank : Bank → Bank
  | .lc0 => .uc0
  | .uc0 => .lc0
  | .lc1 => .uc1
  | .uc1 => .lc1

/-- The sibling row of a row (3.6): the other row of the same channel. -/
def siblingRow : Bank → Bank
  | .lc0 => .lc1
  | .lc1 => .lc0
  | .uc0 => .uc1
  | .uc1 => .uc0

/-- The row number of 12.2. -/
def rowNumber : Bank → Nat
  | .lc0 => 0
  | .lc1 => 1
  | .uc0 => 2
  | .uc1 => 3

/-- The row a number names (12.2). -/
def bankOfRow (n : Nat) : Option Bank :=
  match n with
  | 0 => some .lc0
  | 1 => some .lc1
  | 2 => some .uc0
  | 3 => some .uc1
  | _ => none

/-- The rows a geometry uses (R5, R6, R19). -/
def rowUsed (split : Bool) (b : Bank) : Bool :=
  match b with
  | .lc0 | .uc0 => true
  | .lc1 | .uc1 => split

/-! ### The memory map (01) -/

/-- The size W of the bank window (R7). -/
def windowBytes (g : Geometry) : Nat := if g.split then g.size.bytes / 4 else g.size.bytes / 2

/-- The last byte of the span of a request, as an unbounded sum (R2); the first byte alone for a length of 0 (R162). -/
def lastByte (address : Address) (length : Nat) : Nat :=
  if length = 0 then address.toNat else address.toNat + 8 * length - 1

/-- Whether the span crosses a bank boundary (R7). -/
def crossesWindow (g : Geometry) (address : Address) (length : Nat) : Bool :=
  address.toNat / windowBytes g != lastByte address length / windowBytes g

/-- Whether a byte address is in range (R3). -/
def inRange (g : Geometry) (address : Address) : Bool := decide (address.toNat < g.size.bytes)

/-- The bank a window index names (R7). -/
def bankOfWindow (split : Bool) (index : Nat) : Option Bank :=
  match split, index with
  | false, 0 => some .lc0
  | false, 1 => some .uc0
  | true, 0 => some .lc0
  | true, 1 => some .lc1
  | true, 2 => some .uc0
  | true, 3 => some .uc1
  | _, _ => none

/-- The bank of the byte at an address; none when it is out of range (R7). -/
def bankOf (g : Geometry) (address : Address) : Option Bank := bankOfWindow g.split (address.toNat / windowBytes g)

/-- The first address of a bank (Table 1-1). -/
def bankBase (g : Geometry) (b : Bank) : Nat :=
  match b with
  | .lc0 => 0
  | .lc1 => g.size.bytes / 4
  | .uc0 => g.size.bytes / 2
  | .uc1 => g.size.bytes / 2 + g.size.bytes / 4

/-- The bank offset the sequencer of a bank presents to memory for an address (R9). -/
def bankOffset (g : Geometry) (b : Bank) (address : Address) : Nat := address.toNat - bankBase g b

/-- The partner of an in-range address (R10). -/
def partnerAddress (g : Geometry) (address : Address) : Address :=
  if address.toNat < g.size.bytes / 2 then address + BitVec.ofNat 32 (g.size.bytes / 2)
  else address - BitVec.ofNat 32 (g.size.bytes / 2)

/-- The page number of a byte address (1.3, R109). -/
def pageOf (byte : Nat) : Nat := byte / Config.pageBytes

/-- Pages in memory (Table 1-2). -/
def pagesInMemory (size : MemorySize) : Nat := size.bytes / Config.pageBytes

/-- Pages in one channel (Table 1-2). -/
def pagesPerChannel (size : MemorySize) : Nat := size.bytes / 2 / Config.pageBytes

/-! ### Linked pairs (R42) -/

/-- Whether positions `p` and `p + 1` of a row are a linked pair for port `n` under cycle length `L`. -/
def isPairAt (r : Row) (slots : Nat) (n : PortId) (p : Nat) : Bool :=
  decide (p + 1 < slots) && decide (r.codeAt p = .port n) && decide (r.codeAt (p + 1) = .port n)

/-- The eight positions of a row. -/
def allPositions : List Nat := [0, 1, 2, 3, 4, 5, 6, 7]

/-- Whether a plan's grid holds a linked pair for a port on a bank (R42, R43): used rows and used positions alone. -/
def hasPair (p : Plan) (n : PortId) (b : Bank) : Bool :=
  rowUsed p.geometry.split b && allPositions.any (isPairAt (p.grid.get b) p.geometry.cycleLength.slots n)

/-! ### Region lookup (07) -/

/-- The sixteen region indices in ascending order. -/
def allRegions : List (Fin 16) := [0, 1, 2, 3, 4, 5, 6, 7, 8, 9, 10, 11, 12, 13, 14, 15]

/-- A region entry of a plan. -/
def Plan.region (p : Plan) (i : Fin 16) : RegionEntry := p.regions[i.val]

/-- Whether an entry contains a byte of the given page (R109). -/
def RegionEntry.contains (e : RegionEntry) (page : Nat) : Bool :=
  e.enabled && decide (e.basePage.toNat ≤ page) && decide (page ≤ e.limitPage.toNat)

/-- The first match of a byte (R109). -/
def firstMatch (p : Plan) (byte : Nat) : Option (Fin 16) :=
  allRegions.find? fun i => (p.region i).contains (pageOf byte)

/-- Whether a kind of request is an atomic (R40). -/
def isAtomicKind : RequestKind → Bool
  | .read | .write => false
  | .swap | .fetchAdd => true

/-- Whether an entry's port sets allow a kind of request on a port (R112). -/
def RegionEntry.permits (e : RegionEntry) (n : PortId) : RequestKind → Bool
  | .read => e.readPorts.getLsbD n
  | .write => e.writePorts.getLsbD n
  | .swap | .fetchAdd => e.readPorts.getLsbD n && e.writePorts.getLsbD n

/-- The outcome of the region check (R110): allowed with a mirror attribute, or denied with a region index or none. -/
inductive RegionDecision where
  | allowed (mirror : Bool)
  | denied (region : Option (Fin 16))
deriving DecidableEq, Repr

/-- The test of a request that one entry governs (R112). -/
def governedBy (p : Plan) (i : Fin 16) (n : PortId) (k : RequestKind) : RegionDecision :=
  if (p.region i).permits n k then .allowed (p.region i).mirror else .denied (some i)

/-- The default policy (R113). -/
def byDefaultPolicy (p : Plan) : RegionDecision :=
  match p.defaultPolicy with
  | .allow => .allowed false
  | .deny => .denied none

/-- The region check of a request (R110 to R113). -/
def regionCheck (p : Plan) (n : PortId) (k : RequestKind) (address : Address) (length : Nat) : RegionDecision :=
  match firstMatch p address.toNat, firstMatch p (lastByte address length) with
  | some i, some j => if i = j then governedBy p i n k else .denied (some i)
  | none, none => byDefaultPolicy p
  | some i, none => .denied (some i)
  | none, some _ => .denied none

/-! ### Acceptance checks (10.4) -/

/-- What the four acceptance checks decide: a refusal with its status, record kind, bank and region index, or acceptance with the
bank and the mirror attribute. -/
inductive AcceptanceDecision where
  | refuse (status : ResponseStatus) (kind : FaultKind) (bank : Option Bank) (region : Option (Fin 16))
  | accept (bank : Bank) (mirror : Bool)
deriving DecidableEq, Repr

/-- The MALFORMED check (R162). -/
def isMalformed (g : Geometry) (m : RequestMessage) : Bool :=
  decide (m.length.toNat = 0) || decide (8 < m.length.toNat) || decide (m.address.toNat % 8 ≠ 0)
    || (isAtomicKind m.kind && decide (m.length.toNat ≠ 1)) || crossesWindow g m.address m.length.toNat

/-- The four acceptance checks in their order (R161). -/
def acceptanceDecision (p : Plan) (n : PortId) (m : RequestMessage) : AcceptanceDecision :=
  if isMalformed p.geometry m then .refuse .malformed .malformed (bankOf p.geometry m.address) none
  else
    match bankOf p.geometry m.address with
    | none => .refuse .range .range none none
    | some b =>
      match regionCheck p n m.kind m.address m.length.toNat with
      | .denied region => .refuse .denied .denied (some b) region
      | .allowed mirror =>
        if isAtomicKind m.kind && !hasPair p n b then .refuse .noLink .noLink (some b) none
        else .accept b mirror

/-- Enables and data of the beats a WRITE takes: beat positions 0 to length − 1 (R188). -/
def writeBeatsOf (m : RequestMessage) : List WriteBeat :=
  (List.zipWith WriteBeat.mk m.enables.toList m.data.toList).take m.length.toNat

/-- What a request is to do: a WRITE with its beats, an atomic with the operand of beat position 0, its enables discarded (R40,
R188). -/
def workOf (m : RequestMessage) : Work :=
  match m.kind with
  | .read => .read
  | .write => .write (writeBeatsOf m)
  | .swap => .atomic .swap m.data[0]
  | .fetchAdd => .atomic .fetchAdd m.data[0]

/-! ### Bytes of the management link (12.3) -/

/-- The low byte of a number. -/
def byteOf (n : Nat) : Byte := BitVec.ofNat 8 n

/-- A number of 16 bits, most significant byte first (R189). -/
def bytes16 (n : Nat) : List Byte := [byteOf (n / 256), byteOf n]

/-- A number of 32 bits, most significant byte first (R189). -/
def bytes32 (n : Nat) : List Byte := [byteOf (n / 0x1000000), byteOf (n / 0x10000), byteOf (n / 256), byteOf n]

/-- Two bytes as a number of 16 bits, most significant byte first (R189). -/
def word16 (hi lo : Byte) : BitVec 16 := hi ++ lo

/-- A flag at a bit place. -/
def bitOf (flag : Bool) (place : Nat) : Nat := if flag then 2 ^ place else 0

/-- The encoding of a slot code (Table 12-3). -/
def SlotCode.value : SlotCode → Nat
  | .port n => n.val
  | .openSlot => 4
  | .mirror => 5
  | .refresh => 6
  | .idle => 7

/-- The slot code a value names (Table 12-3). -/
def slotCodeOf (n : Nat) : Option SlotCode :=
  match n with
  | 0 => some (.port 0)
  | 1 => some (.port 1)
  | 2 => some (.port 2)
  | 3 => some (.port 3)
  | 4 => some .openSlot
  | 5 => some .mirror
  | 6 => some .refresh
  | 7 => some .idle
  | _ => none

/-- The position a byte names (Table 12-5). -/
def positionOf (v : Byte) : Option (Fin 8) := if h : v.toNat < 8 then some ⟨v.toNat, h⟩ else none

/-- The port a byte names (Table 12-5). -/
def portOf (v : Byte) : Option PortId := if h : v.toNat < 4 then some ⟨v.toNat, h⟩ else none

/-- The region index a byte names (Table 12-5). -/
def regionOf (v : Byte) : Option (Fin 16) := if h : v.toNat < 16 then some ⟨v.toNat, h⟩ else none

/-- The four bytes of a grid row (R189): position 0 in the high half of the first byte. -/
def rowImage (r : Row) : List Byte :=
  [byteOf (16 * (r.codeAt 0).value + (r.codeAt 1).value), byteOf (16 * (r.codeAt 2).value + (r.codeAt 3).value),
   byteOf (16 * (r.codeAt 4).value + (r.codeAt 5).value), byteOf (16 * (r.codeAt 6).value + (r.codeAt 7).value)]

/-- The region image of an entry (Table 12-6). -/
def regionImage (e : RegionEntry) : List Byte :=
  bytes16 e.basePage.toNat ++ bytes16 e.limitPage.toNat
    ++ [byteOf (bitOf e.enabled 0 + bitOf e.mirror 1), byteOf (16 * e.readPorts.toNat + e.writePorts.toNat)]

/-- The entry a region image describes; none when it sets a bit its layout does not define (R190). -/
def regionOfImage (v : Vector Byte 6) : Option RegionEntry :=
  if v[4].toNat < 4 then
    some ⟨v[4].getLsbD 0, word16 v[0] v[1], word16 v[2] v[3], v[5].extractLsb' 4 4, v[5].extractLsb' 0 4, v[4].getLsbD 1⟩
  else none

/-- The fields WRITE-GEOMETRY writes together (R123). -/
structure GeneralFields where
  geometry      : Geometry
  syncEnable    : Bool
  defaultPolicy : Policy
  drainLimit    : Nat
deriving DecidableEq, Repr

/-- The seven fields of a plan that the geometry image holds (Table 12-6). -/
def Plan.general (p : Plan) : GeneralFields := ⟨p.geometry, p.syncEnable, p.defaultPolicy, p.drainLimit⟩

/-- The geometry image (Table 12-6). -/
def geometryImage (f : GeneralFields) : List Byte :=
  [byteOf f.geometry.cycleLength.slots,
   byteOf (bitOf f.geometry.split 0 + bitOf (decide (f.geometry.size = .mib128)) 1
     + bitOf (decide (f.geometry.kind = .static)) 2 + bitOf f.syncEnable 3 + bitOf (decide (f.defaultPolicy = .deny)) 4)]
    ++ bytes16 f.drainLimit

/-- The cycle length a byte names (Table 12-6). -/
def cycleLengthOf (v : Byte) : Option CycleLength :=
  match v.toNat with
  | 4 => some .four
  | 8 => some .eight
  | _ => none

/-- The seven fields a geometry image describes; none when a value is out of range or a flag bit is not defined (R123, R190). -/
def generalOfImage (v : Vector Byte 4) : Option GeneralFields :=
  match cycleLengthOf v[0] with
  | none => none
  | some length =>
    if v[1].toNat < 32 && decide (1 ≤ (word16 v[2] v[3]).toNat) && decide ((word16 v[2] v[3]).toNat ≤ 4095) then
      some ⟨⟨length, v[1].getLsbD 0, if v[1].getLsbD 1 then .mib128 else .mib64, if v[1].getLsbD 2 then .static else .dynamic⟩,
        v[1].getLsbD 3, if v[1].getLsbD 4 then .deny else .allow, (word16 v[2] v[3]).toNat⟩
    else none

/-- The limits image (Table 12-6). -/
def limitsImage (l : PerPort (BitVec 8)) : List Byte := [l.p0, l.p1, l.p2, l.p3]

/-- One item of a plan, as the item selector of READ-PLAN names it (R177, Table 12-6). -/
def planItem (p : Plan) (item : Byte) : Option (List Byte) :=
  if item.toNat < 4 then (bankOfRow item.toNat).map fun b => rowImage (p.grid.get b)
  else if h : 16 ≤ item.toNat ∧ item.toNat < 32 then some (regionImage (p.region ⟨item.toNat - 16, by omega⟩))
  else if item.toNat = 0x20 then some (geometryImage p.general)
  else if item.toNat = 0x21 then some (limitsImage p.waitLimits)
  else none

/-- The reason byte (Table 12-7). -/
def PlanFailure.reason : PlanFailure → Byte
  | .noRefresh _ => 0x01
  | .noTurnaround _ _ => 0x02
  | .regionOrder _ => 0x03
  | .regionRange _ => 0x04
  | .mirrorSpan _ => 0x05

/-- The location byte (Table 12-6). -/
def PlanFailure.location : PlanFailure → Byte
  | .noRefresh b => byteOf (16 * rowNumber b)
  | .noTurnaround b p => byteOf (16 * rowNumber b + p)
  | .regionOrder i | .regionRange i | .mirrorSpan i => byteOf i.val

/-- The outcome number of the status block (Table 12-7). -/
def CommitOutcome.number : CommitOutcome → Nat
  | .swapped => 1
  | .refused _ => 2
  | .abandoned => 3
  | .cancelled => 4
  | .abortedByReset => 5

/-- Reason and location bytes of an outcome: zero unless REFUSED (Table 12-7). -/
def CommitOutcome.reasonAndLocation : CommitOutcome → List Byte
  | .refused f => [f.reason, f.location]
  | .swapped | .abandoned | .cancelled | .abortedByReset => [0, 0]

/-- The commit state number of the status block (Table 12-7). -/
def CommitState.number : CommitState → Nat
  | .none => 0
  | .waiting => 1
  | .draining => 2

/-- The sync state number (Table 12-7). -/
def SyncState.number : SyncState → Nat
  | .free => 0
  | .seeking => 1
  | .locked => 2
  | .lost => 3

/-- The mask byte (Table 12-6). -/
def AlertMask.image (m : AlertMask) : Byte := byteOf (bitOf m.fault 0 + bitOf m.capture 1 + bitOf m.commit 2)

/-- The mask a byte describes; none when it sets another enable (R179). -/
def maskOf (v : Byte) : Option AlertMask :=
  if v.toNat < 8 then some ⟨v.getLsbD 0, v.getLsbD 1, v.getLsbD 2⟩ else none

/-- The kind byte of a fault record (Table 12-8). -/
def FaultKind.code : FaultKind → Byte
  | .denied => 0x01
  | .range => 0x02
  | .malformed => 0x03
  | .noLink => 0x04
  | .timeout => 0x05
  | .dataFault => 0x06
  | .recovered => 0x07
  | .doubleFault => 0x08
  | .recoveryDropped => 0x09
  | .syncSlip => 0x0A
  | .syncLost => 0x0B

/-- The eleven bytes of a fault record; an absent field is driven 0 (Table 12-8). -/
def faultImage (r : FaultRecord) : List Byte :=
  [r.kind.code,
   byteOf (bitOf r.port.isSome 0 + bitOf r.bank.isSome 1 + bitOf r.region.isSome 2),
   byteOf (16 * (r.port.map Fin.val).getD 0 + (r.tag.map BitVec.toNat).getD 0)]
    ++ bytes32 ((r.address.map BitVec.toNat).getD 0)
    ++ [byteOf (16 * (r.bank.map rowNumber).getD 0 + (r.region.map Fin.val).getD 0)]
    ++ bytes16 r.cycleCount.toNat ++ [byteOf r.position]

/-- The four bytes of a capture record (Table 12-8). -/
def captureImage (r : CaptureRecord) : List Byte :=
  bytes16 r.cycleCount.toNat
    ++ [byteOf r.position, byteOf (r.sync.number + bitOf (decide (r.source = .command)) 7)]

/-- The status of a reply (Table 12-4). -/
inductive LinkStatus where
  | ok | busy | checkError | badCommand | badArgument | empty
deriving DecidableEq, Repr

/-- The status byte (Table 12-4). -/
def LinkStatus.code : LinkStatus → Byte
  | .ok => 0x00
  | .busy => 0x01
  | .checkError => 0x02
  | .badCommand => 0x03
  | .badArgument => 0x04
  | .empty => 0x05

/-! ### Port messages (12.1) -/

/-- A response message on the wires (Table 12-2). -/
structure ResponseMessage where
  tag       : Tag
  status    : BitVec 3
  recovered : Bool
  data      : List Beat
deriving DecidableEq, Repr

/-- The encoding of a response status (Table 12-2). -/
def ResponseStatus.code : ResponseStatus → BitVec 3
  | .ok => 0
  | .denied => 1
  | .range => 2
  | .malformed => 3
  | .noLink => 4
  | .timeout => 5
  | .dataFault => 6

/-- The response message of a result: its beats in beat positions from 0, every other beat position driven 0 (R188). -/
def responseMessage (tag : Tag) (r : CompletionResult) : ResponseMessage :=
  ⟨tag, r.status.code, r.recovered, (r.data ++ List.replicate 8 0).take 8⟩

end Sys2Proof.Machine
end

