-- ==== Sys2Proof/Machine/Flags.lean ====
section
/-! DEFINITION. The lines, gates, causes and indications that are computed from the state: RESET_N, the acceptance gate (R159), the
offered response (R155), ALERT (R184), the management data output (R173), backlog occupancy (R75), the refresh and truncation
conditions, and the check byte (R174). -/

namespace Sys2Proof.Machine

/-- RESET_N is asserted while the slot timer is stopped (R12). -/
def State.inReset (s : State) : Bool := decide (s.scheduler.timer = .stopped)

/-- The acceptance gate of a port (R159). -/
def State.gateOpen (s : State) (n : PortId) : Bool :=
  !s.inReset && !(s.ports.get n).resetLine && decide (s.commit.state ≠ .draining)
    && decide ((s.ports.get n).completions.length < Config.completionCapacity)

/-- The response offered on a port: that of the oldest completion entry, while it is DONE and no reset is asserted (R155). -/
def State.offered (s : State) (n : PortId) : Option ResponseMessage :=
  if s.inReset || (s.ports.get n).resetLine then none
  else
    match (s.ports.get n).completions with
    | ⟨_, tag, _, .done r⟩ :: _ => some (responseMessage tag r)
    | _ => none

/-- The causes of ALERT that hold with their enable set (R184). -/
def State.alertCauses (s : State) : Bool :=
  (s.link.alertMask.fault && !s.link.faults.isEmpty) || (s.link.alertMask.capture && !s.sync.captures.isEmpty)
    || (s.link.alertMask.commit && s.commit.record.unreported)

/-- The ALERT line: asserted (true) or not; deasserted while RESET_N is asserted (R184, R187). -/
def State.alert (s : State) : Bool := !s.inReset && s.alertCauses

/-- Byte `k` of the output in a state of the frame receiver: not driven in IDLE; 0 in RECEIVING and SPENT; the bytes of the reply in
REPLYING, and 0 after them (Table 11-1). -/
def Receiver.outputByte (r : Receiver) (k : Nat) : Option Byte :=
  match r with
  | .idle => none
  | .receiving | .spent => some 0
  | .replying reply => some (reply.getD k 0)

/-- The management data output: its byte `k` since the receiver entered its state, or not driven (none), as it is while RESET_N is
asserted (R173, R187). -/
def State.dataOutput (s : State) (k : Nat) : Option Byte := if s.inReset then none else s.link.receiver.outputByte k

/-- The occupancy of a backlog: entries and reservations (R75). -/
def Backlog.occupancy (l : Backlog) : Nat := l.entries.length + l.reservations

/-- Free capacity (R75); a place freed since the last slot start does not count yet (R78, R92). -/
def Backlog.hasRoom (l : Backlog) : Bool := decide (l.occupancy + l.freed < Config.backlogCapacity)

/-- Whether a bank is in the first slot of an atomic's pair (R16, R147). -/
def Sequencer.inFirstSlot (q : Sequencer) : Bool :=
  match q.pair with
  | some p => decide (p.slot = .first)
  | none => false

/-- Whether some bank granted an atomic at the start of the slot that is ending, which defers a forced boundary and a truncation (R16,
R147). -/
def State.heldOpen (s : State) : Bool := allBanks.any fun b => (s.banks.get b).inFirstSlot

/-- The cycle length in force. -/
def State.slots (s : State) : Nat := s.commit.active.geometry.cycleLength.slots

/-- A forced boundary falls at the end of the slot in progress (R16). -/
def State.forcedFalls (s : State) : Bool := s.scheduler.forcedDue && !s.heldOpen

/-- The pending truncation falls at the end of the slot in progress, or is taken up there (R147). -/
def State.truncationFalls (s : State) : Bool := s.sync.truncationPending && !s.heldOpen

/-- Whether positions after `p`, dropped from a cycle, hold a REFRESH of the row (R102). -/
def dropsRefresh (r : Row) (slots p : Nat) : Bool :=
  allPositions.any fun q => decide (p < q) && decide (q < slots) && decide (r.codeAt q = .refresh)

/-- Whether every request queue is empty (R68, R132). -/
def State.queuesEmpty (s : State) : Bool := allPorts.all fun n => (s.queues.get n).isEmpty

/-- Whether every mirror backlog holds no entry (R91, R132). -/
def State.backlogsEmpty (s : State) : Bool := allBanks.all fun b => (s.mirrors.get b).entries.isEmpty

/-- The eight reports of a drain check are all empty (R132). -/
def State.drained (s : State) : Bool := s.queuesEmpty && s.backlogsEmpty

/-- The commit controller's reaction to the boundary is a swap (R129, R130, R132). -/
def State.swapDue (s : State) : Bool :=
  s.commit.reactionDue && (decide (s.commit.state = .waiting) || (decide (s.commit.state = .draining) && s.drained))

/-- The commit controller's reaction to the boundary is to give the drain up (R132). -/
def State.abandonDue (s : State) : Bool :=
  s.commit.reactionDue && decide (s.commit.state = .draining) && !s.drained
    && decide (s.commit.active.drainLimit < s.commit.drainCount + 1)

/-- One bit into the check register (R174). -/
def crcBit (register : Byte) (bit : Bool) : Byte :=
  if register.msb != bit then (register <<< 1) ^^^ 0x07 else register <<< 1

/-- The eight bits of a byte, most significant first (R174). -/
def crcByte (register v : Byte) : Byte :=
  [7, 6, 5, 4, 3, 2, 1, 0].foldl (fun r k => crcBit r (v.getLsbD k)) register

/-- The check byte of a run of bytes: CRC-8, polynomial x^8 + x^2 + x + 1, initial value 0 (R174). -/
def checkByte (bytes : List Byte) : Byte := bytes.foldl crcByte 0

end Sys2Proof.Machine
end

