-- ==== Sys2Proof/Machine/Ops.lean ====
section
/-! DEFINITION. The named operations over the state that the commands share: the updates of each block, the fault queue (R182), the
capture FIFO (R151), completion and queue entries (R58, R61 to R66), backlogs (R75), the commit result record (R140) and the
replies of the management link (R173 to R175). -/

namespace Sys2Proof.Machine

/-! ### Updates of one part of the state -/

/-- Queue of port `n` replaced. -/
def State.setQueue (s : State) (n : PortId) (q : List QueueEntry) : State := { s with queues := s.queues.set n q }

/-- Completion list of port `n` replaced. -/
def State.setCompletions (s : State) (n : PortId) (l : List CompletionEntry) : State :=
  { s with ports := s.ports.set n { s.ports.get n with completions := l } }

/-- PRSTn line of port `n` set. -/
def State.setResetLine (s : State) (n : PortId) (asserted : Bool) : State :=
  { s with ports := s.ports.set n { s.ports.get n with resetLine := asserted } }

/-- Backlog of bank `b` replaced. -/
def State.setBacklog (s : State) (b : Bank) (l : Backlog) : State := { s with mirrors := s.mirrors.set b l }

/-- Sequencer of bank `b` replaced. -/
def State.setSequencer (s : State) (b : Bank) (q : Sequencer) : State := { s with banks := s.banks.set b q }

/-- Slot scheduler replaced. -/
def State.setScheduler (s : State) (x : Scheduler) : State := { s with scheduler := x }

/-- Commit controller replaced. -/
def State.setCommit (s : State) (x : CommitController) : State := { s with commit := x }

/-- Sync and capture unit replaced. -/
def State.setSync (s : State) (x : SyncUnit) : State := { s with sync := x }

/-- Management link controller replaced. -/
def State.setLink (s : State) (x : LinkController) : State := { s with link := x }

/-- Memory replaced. -/
def State.setMemory (s : State) (m : Memory) : State := { s with memory := m }

/-! ### Fault queue and capture FIFO -/

/-- The fault queue with a record offered to it: appended, or discarded with the overflow flag set (R182). -/
def LinkController.report (l : LinkController) (r : FaultRecord) : LinkController :=
  if l.faults.length < Config.faultCapacity then { l with faults := l.faults ++ [r] }
  else { l with faultOverflow := true }

/-- A record handed to the management link controller (R182). -/
def State.report (s : State) (r : FaultRecord) : State := s.setLink (s.link.report r)

/-- The tag of the request behind a completion reference (R57). -/
def State.tagOf (s : State) (n : PortId) (ref : Nat) : Option Tag :=
  ((s.ports.get n).completions.find? fun c => decide (c.ref = ref)).map (·.tag)

/-- A record about a request, stamped with the cycle count and the position as they stand (R17, R181). -/
def State.requestRecord (s : State) (kind : FaultKind) (n : PortId) (tag : Option Tag) (address : Address)
    (bank : Option Bank) (region : Option (Fin 16)) (position : Nat) : FaultRecord :=
  ⟨kind, some n, tag, some address, bank, region, s.scheduler.cycleCount, position⟩

/-- A record of the sync unit: port, tag, address, bank and region index are absent (R146, R149). -/
def State.syncRecord (s : State) (kind : FaultKind) (position : Nat) : FaultRecord :=
  ⟨kind, none, none, none, none, none, s.scheduler.cycleCount, position⟩

/-- A record about a queue entry of port `n`, with its stored bank (R61, R66). -/
def State.reportEntry (s : State) (kind : FaultKind) (n : PortId) (e : QueueEntry) (position : Nat) : State :=
  s.report (s.requestRecord kind n (s.tagOf n e.ref) e.address (some e.bank) none position)

/-- The capture FIFO with a record offered to it (R151). -/
def SyncUnit.capture (u : SyncUnit) (r : CaptureRecord) : SyncUnit :=
  if u.captures.length < Config.captureCapacity then { u with captures := u.captures ++ [r] }
  else { u with captureOverflow := true }

/-- A capture record made from the state as it stands (R151, R17). DESIGN CHOICE: a capture named between the slot end of a boundary and
the next slot start has the starting slot's count and position, and the sync state from before a loss of lock or a swap that the boundary
still owes (log entry 5). -/
def State.capture (s : State) (source : CaptureSource) : State :=
  s.setSync (s.sync.capture ⟨s.scheduler.cycleCount, s.scheduler.position, s.sync.state, source⟩)

/-! ### Queue entries and completion entries -/

/-- Whether an entry has the given completion reference. -/
def QueueEntry.hasRef (e : QueueEntry) (ref : Nat) : Bool := decide (e.ref = ref)

/-- The queue entry of port `n` with a completion reference; none once it has left or been detached (R70). -/
def State.findEntry (s : State) (n : PortId) (ref : Nat) : Option QueueEntry :=
  (s.queues.get n).find? fun e => e.hasRef ref

/-- The queue without the entry of a reference: the younger ones close up (R56). -/
def State.removeEntry (s : State) (n : PortId) (ref : Nat) : State :=
  s.setQueue n ((s.queues.get n).filter fun e => !e.hasRef ref)

/-- The entry of a reference changed in its place (R56). -/
def State.updateEntry (s : State) (n : PortId) (ref : Nat) (f : QueueEntry → QueueEntry) : State :=
  s.setQueue n ((s.queues.get n).map fun e => if e.hasRef ref then f e else e)

/-- PENDING to DONE, once (R158). -/
def CompletionEntry.finish (c : CompletionEntry) (ref : Nat) (r : CompletionResult) : CompletionEntry :=
  if c.ref = ref ∧ c.state = .pending then { c with state := .done r } else c

/-- The completion entry of a reference becomes DONE (R158). -/
def State.completeRef (s : State) (n : PortId) (ref : Nat) (r : CompletionResult) : State :=
  s.setCompletions n ((s.ports.get n).completions.map fun c => c.finish ref r)

/-- The queue entry of a reference leaves its queue and its completion entry becomes DONE, together (4.4). -/
def State.finishEntry (s : State) (n : PortId) (ref : Nat) (r : CompletionResult) : State :=
  (s.removeEntry n ref).completeRef n ref r

/-- A result without data or recovered indication (R156). -/
def bareResult (status : ResponseStatus) : CompletionResult := ⟨status, [], false⟩

/-- An entry leaves with a status and without data, and a record of the given kind is made (R61, R66, R49, R85, R87). -/
def State.failEntry (s : State) (n : PortId) (e : QueueEntry) (status : ResponseStatus) (kind : FaultKind) (position : Nat) : State :=
  (s.reportEntry kind n e position).finishEntry n e.ref (bareResult status)

/-! ### Backlogs -/

/-- One reservation made in the backlog of a bank (R76). -/
def State.reserve (s : State) (b : Bank) : State :=
  s.setBacklog b { s.mirrors.get b with reservations := (s.mirrors.get b).reservations + 1 }

/-- One reservation of a backlog released without an append; its place counts as free capacity from the next slot start (R78). -/
def State.release (s : State) (b : Bank) : State :=
  s.setBacklog b { s.mirrors.get b with
    reservations := (s.mirrors.get b).reservations - 1
    freed := (s.mirrors.get b).freed + 1 }

/-- A SECONDARY-WRITE appended at the partner bank for a primary write on bank `b`, consuming its reservation (R77). -/
def State.appendSecondary (s : State) (b : Bank) (address : Address) (beats : List WriteBeat) : State :=
  s.setBacklog (partnerBank b)
    { s.mirrors.get (partnerBank b) with
      entries := (s.mirrors.get (partnerBank b)).entries
        ++ [⟨.secondaryWrite beats, partnerAddress s.commit.active.geometry address, beats.length, false⟩]
      reservations := (s.mirrors.get (partnerBank b)).reservations - 1 }

/-- A RECOVERY-READ appended at the partner bank for a faulted read on bank `b` (R84). -/
def State.appendRecovery (s : State) (b : Bank) (address : Address) (length : Nat) (n : PortId) (ref : Nat) : State :=
  s.setBacklog (partnerBank b)
    { s.mirrors.get (partnerBank b) with
      entries := (s.mirrors.get (partnerBank b)).entries
        ++ [⟨.recoveryRead n ref, partnerAddress s.commit.active.geometry address, length, false⟩] }

/-- The performed entry of a bank's backlog removed at its slot end (R80). -/
def State.removePerformed (s : State) (b : Bank) : State :=
  s.setBacklog b { s.mirrors.get b with entries := (s.mirrors.get b).entries.filter fun e => !e.performing }

/-- The backlog head: the oldest entry that is not being performed (R33). -/
def Backlog.head (l : Backlog) : Option BacklogEntry := l.entries.find? fun e => !e.performing

/-- The entries with the head marked as being performed (R33). -/
def markHead : List BacklogEntry → List BacklogEntry
  | [] => []
  | e :: rest => if e.performing then e :: markHead rest else { e with performing := true } :: rest

/-- Whether a reset of port `n` (or of every port, for none) removes a backlog entry at once: a RECOVERY-READ of that port that is not
being performed (R92, R93). -/
def BacklogEntry.recoveryOf (e : BacklogEntry) (n : Option PortId) : Bool :=
  match e.work with
  | .secondaryWrite _ => false
  | .recoveryRead m _ => !e.performing && (match n with
    | some k => decide (m = k)
    | none => true)

/-- The backlog without the RECOVERY-READs that a reset removes; their places count as free capacity from the next slot start (R92,
R93). -/
def Backlog.dropRecoveries (l : Backlog) (n : Option PortId) : Backlog :=
  { l with
    entries := l.entries.filter fun e => !e.recoveryOf n
    freed := l.freed + (l.entries.filter fun e => e.recoveryOf n).length }

/-- At a slot start every place freed before it counts as free capacity (R78, R92). -/
def State.openFreedPlaces (s : State) : State := { s with mirrors := s.mirrors.map fun l => { l with freed := 0 } }

/-! ### Sequencers -/

/-- The sequencer of a bank without an operation (R95). -/
def State.clearOperation (s : State) (b : Bank) : State :=
  s.setSequencer b { s.banks.get b with operation := none }

/-- The sequencer of a bank given an operation (R95). -/
def State.giveOperation (s : State) (b : Bank) (o : Operation) : State :=
  s.setSequencer b { s.banks.get b with operation := some o }

/-! ### Commit result record -/

/-- An outcome written into the commit result record with the cycle count as it stands (R140, R141). -/
def State.recordOutcome (s : State) (o : CommitOutcome) : State :=
  s.setCommit { s.commit with record := ⟨some (o, s.scheduler.cycleCount), true⟩ }

/-- The commit state set. -/
def State.setCommitState (s : State) (c : CommitState) : State := s.setCommit { s.commit with state := c }

/-! ### Replies of the management link -/

/-- The bytes of a reply: status, results, check byte (R174, R189). -/
def replyBytes (status : LinkStatus) (results : List Byte) : List Byte :=
  status.code :: results ++ [checkByte (status.code :: results)]

/-- The receiver goes to REPLYING with a reply (R173). -/
def State.answer (s : State) (status : LinkStatus) (results : List Byte) : State :=
  s.setLink { s.link with receiver := .replying (replyBytes status results) }

/-- What a command that takes effect leaves: the state, the status and the result bytes (R175). -/
structure Effect where
  state   : State
  status  : LinkStatus
  results : List Byte

/-- OK without result bytes. -/
def done (s : State) : Effect := ⟨s, .ok, []⟩

/-- A status other than OK: nothing changes, no result bytes (R175). -/
def refusal (s : State) (status : LinkStatus) : Effect := ⟨s, status, []⟩

/-- A complete frame: ignored unless the receiver is RECEIVING; CHECK-ERROR on a wrong check byte; otherwise the command takes effect
and its reply is fixed (R173, R174, R175). -/
def State.takeFrame (s : State) (frame : List Byte) (check : Byte) (effect : State → Effect) : State :=
  if s.link.receiver = .receiving then
    if checkByte frame = check then (effect s).state.answer (effect s).status (effect s).results
    else s.answer .checkError []
  else s

end Sys2Proof.Machine
end

