-- ==== Sys2Proof/Machine/Boundary.lean ====
section
/-! DEFINITION. Boundary reactions: ageing and expiry (04 R64 to R66), the swap and the drain check (08 R129 to R134), NO-LINK
completions (03 R49), misses and the loss of lock (09 R149), and the commands that take them: TIMEOUT, SWAPPED, ABANDONED,
SYNC_LOST. -/

namespace Sys2Proof.Machine

/-! ### Ageing and expiry -/

/-- An entry at a normal or truncated boundary: a WAITING entry past a nonzero limit is due to expire; every other WAITING entry ages
by one, up to 255 (R64, R66). -/
def QueueEntry.ageAt (e : QueueEntry) (limit : BitVec 8) : QueueEntry :=
  if e.state = .waiting then
    if limit.toNat ≠ 0 ∧ limit.toNat < e.age + 1 then { e with expiring := true }
    else { e with age := min 255 (e.age + 1) }
  else e

/-- Every queue takes a normal or truncated boundary, each under its wait limit of the ACTIVE plan (R64, R65). -/
def State.ageQueues (s : State) : State :=
  { s with queues := s.queues.mapPort fun n q => q.map fun e => e.ageAt (s.commit.active.waitLimits.get n) }

/-- Whether an entry is due to expire. -/
def QueueEntry.expiryDue (e : QueueEntry) : Bool := e.expiring && decide (e.state = .waiting)

/-- The oldest entry of a port that is due to expire (R66). -/
def State.oldestExpiring (s : State) (n : PortId) : Option QueueEntry := (s.queues.get n).find? QueueEntry.expiryDue

/-- The oldest entry of a port that is due expires: TIMEOUT response and TIMEOUT record stamped at position 0 (R66, R17). -/
def State.expireOldest (s : State) (n : PortId) : State :=
  match s.oldestExpiring n with
  | some e => s.failEntry n e .timeout .timeout 0
  | none => s

/-- Every entry of a port that is due expires, oldest first. -/
def State.expirePort (s : State) (n : PortId) : State :=
  ((s.queues.get n).filter QueueEntry.expiryDue).foldl (fun t _ => t.expireOldest n) s

/-- The expiries of some ports at one boundary (R66): the ports take turns as named, one expiry for each turn, and what is then left of
each named port follows, so that no entry is spared because an older one went first. -/
def State.expirePorts (s : State) (turns : List PortId) : State :=
  turns.foldl State.expirePort (turns.foldl State.expireOldest s)

/-- Every entry that is due expires, ports in increasing order. -/
def State.expireAll (s : State) : State := allPorts.foldl State.expirePort s

/-! ### Loss of lock -/

/-- The second miss in a row takes LOCKED to LOST with a SYNC-LOST record stamped at position 0 (R149, R17). -/
def State.loseLock (s : State) : State :=
  if s.sync.lostDue then
    (s.setSync { s.sync with state := .lost, missCount := 2, lostDue := false }).report (s.syncRecord .syncLost 0)
  else s

/-- The sync unit judges a cycle that ended at a normal boundary (R149); a second miss leaves the loss of lock due. -/
def SyncUnit.judge (u : SyncUnit) : SyncUnit :=
  if u.pulseMark = false ∧ u.state = .locked then
    if u.missCount + 1 < 2 then { u with missCount := u.missCount + 1 } else { u with lostDue := true }
  else { u with pulseMark := false }

/-- The sync unit at a normal or truncated boundary: a pending truncation is cleared with the pulse mark and nothing is judged (R148);
otherwise the ended cycle is judged (R149). -/
def SyncUnit.atBoundary (u : SyncUnit) : SyncUnit :=
  if u.truncationPending then { u with truncationPending := false, pulseMark := false } else u.judge

/-! ### The swap -/

/-- Whether an entry of port `n` is a WAITING atomic without a linked pair in the plan (R49). -/
def QueueEntry.lacksPair (e : QueueEntry) (p : Plan) (n : PortId) : Bool :=
  decide (e.state = .waiting) && (match e.work with
    | .atomic _ _ => true
    | .read | .write _ => false) && !hasPair p n e.bank

/-- The oldest WAITING atomic of a port without a pair in the ACTIVE grid completes NO-LINK (R49). -/
def State.completeNoLink (s : State) (n : PortId) : State :=
  match (s.queues.get n).find? fun e => e.lacksPair s.commit.active n with
  | some e => s.failEntry n e .noLink .noLink 0
  | none => s

/-- Every such atomic of a port completes, in acceptance order (R49). -/
def State.completeNoLinks (s : State) (n : PortId) : State :=
  ((s.queues.get n).filter fun e => e.lacksPair s.commit.active n).foldl (fun t _ => t.completeNoLink n) s

/-- The NO-LINK completions of a plain swap: the ports take turns as named, then the rest in increasing order of port (R49, R182). DESIGN
CHOICE: they come one straight after another, so no other record of that instant (a TIMEOUT), and no READ-FAULT, falls
between two of them (log entry 17). -/
def State.noLinkCompletions (s : State) (turns : List PortId) : State :=
  allPorts.foldl State.completeNoLinks (turns.foldl State.completeNoLink s)

/-- The sync unit takes the sync enable of a newly installed plan (R143). -/
def SyncUnit.takeEnable (u : SyncUnit) (old new : Bool) : SyncUnit :=
  match old, new with
  | false, true => { u with state := .seeking, missCount := 0 }
  | true, false => { u with state := .free, missCount := 0 }
  | true, true | false, false => u

/-- The refresh debt after a geometry swap (R104). -/
def swapDebt (g : Geometry) (b : Bank) (debt : Bool) : Bool :=
  match g.kind with
  | .static => false
  | .dynamic => debt && rowUsed g.split b

/-- The effects of a geometry swap on the OPEN pointers and the refresh debts (R134, R37, R104). -/
def State.geometryReactions (s : State) : State :=
  { s with
    scheduler := { s.scheduler with pointers := ⟨0, 0, 0, 0⟩ }
    banks := s.banks.mapBank fun b q => { q with debt := swapDebt s.commit.active.geometry b q.debt } }

/-- The STAGED plan becomes the ACTIVE plan with outcome SWAPPED (R129). -/
def State.installPlan (s : State) : State :=
  (s.setCommit { s.commit with active := s.commit.staged, state := .none, reactionDue := false }).recordOutcome .swapped

/-- The swap with the reactions of the blocks that read the plan (R129): the loss of lock that is due comes first (R143), then the
installation, the new sync enable, and either the geometry reactions (a drain, R134) or the NO-LINK completions (R49). DESIGN CHOICE: the
SYNC-LOST record so stands before the NO-LINK records of the same boundary (R182; log entry 24). -/
def State.swap (s : State) (turns : List PortId) : State :=
  let s₁ := s.loseLock
  let s₂ := s₁.installPlan
  let s₃ := s₂.setSync (s₂.sync.takeEnable s₁.commit.active.syncEnable s₁.commit.staged.syncEnable)
  if s₁.commit.state = .draining then s₃.geometryReactions else s₃.noLinkCompletions turns

/-- The drain is given up with outcome ABANDONED; both plans are unchanged (R132). -/
def State.abandon (s : State) : State :=
  (s.setCommit { s.commit with
    state := .none, drainCount := s.commit.drainCount + 1, reactionDue := false }).recordOutcome .abandoned

/-- The commit controller's reaction that ends no commit: nothing in NONE, one more in the drain count in DRAINING (R132). -/
def State.countDrain (s : State) : State :=
  s.setCommit { s.commit with
    drainCount := if s.commit.state = .draining then s.commit.drainCount + 1 else s.commit.drainCount
    reactionDue := false }

/-- The commit controller takes the reaction that is due, if one is (R129 to R132). -/
def State.commitReaction (s : State) (turns : List PortId) : State :=
  if s.swapDue then s.swap turns
  else if s.abandonDue then s.abandon
  else if s.commit.reactionDue then s.countDrain
  else s

/-- The commit controller at the slot end that forms a normal or truncated boundary: with `checkFirst` a reaction that ends no commit
is taken there; every other reaction is left due (R133; log entry 4). -/
def State.markReaction (s : State) (check : DrainCheckOrder) : State :=
  let s₁ := s.setCommit { s.commit with reactionDue := true }
  match check with
  | .checkAfterExpiry => s₁
  | .checkFirst => if s₁.swapDue || s₁.abandonDue then s₁ else s₁.countDrain

/-- What the last boundary still owes when the next slot end is taken: the loss of lock and the expiries (log entry 4). -/
def State.settle (s : State) : State := s.loseLock.expireAll

/-! ### The commands -/

/-- TIMEOUT (R66): the expiries of a port at one boundary are one event (R182). DESIGN CHOICE: no record of another block or of a port that
is not named, and no READ-FAULT, falls between the records of one TIMEOUT (log entry 4). -/
def execTimeout (turns : List PortId) (s : State) : Host.Outcome State Fault Refusal := .next (s.expirePorts turns)

/-- SWAPPED (R129): makes the swap that is due. -/
def execSwapped (turns : List PortId) (s : State) : Host.Outcome State Fault Refusal :=
  .next (if s.swapDue then s.swap turns else s)

/-- ABANDONED (R132): gives up the drain that is past its limit. -/
def execAbandoned (s : State) : Host.Outcome State Fault Refusal := .next (if s.abandonDue then s.abandon else s)

/-- SYNC_LOST (R149). -/
def execSyncLost (s : State) : Host.Outcome State Fault Refusal := .next s.loseLock

end Sys2Proof.Machine
end

