-- ==== Sys2Proof/Machine/SlotStart.lean ====
section
/-! DEFINITION. SLOT_START: what each bank does in a slot (02 R20 to R37), grants (R32, R44), backlog service (R33, R80), refresh and
the catch-up refresh (R24, R27, R100, R103), and the hold of an atomic's second slot (R26, R46, R47). -/

namespace Sys2Proof.Machine

/-! ### Candidates and eligibility -/

/-- The candidate of a port for a bank: its oldest WAITING entry whose stored bank is that bank (R28). -/
def State.candidate (s : State) (n : PortId) (b : Bank) : Option QueueEntry :=
  (s.queues.get n).find? fun e => decide (e.state = .waiting) && decide (e.bank = b)

/-- Whether an entry writes: a WRITE or an atomic. -/
def Work.writes : Work → Bool
  | .read => false
  | .write _ | .atomic _ _ => true

/-- The row of a bank in the ACTIVE grid. -/
def State.activeRow (s : State) (b : Bank) : Row := s.commit.active.grid.get b

/-- The code of a bank's row at the current position (R19). -/
def State.currentCode (s : State) (b : Bank) : SlotCode := (s.activeRow b).codeAt s.scheduler.position

/-- An atomic needs the first slot of a linked pair of its port; in an OPEN slot it is never eligible (R29). -/
def State.atomicSlot (s : State) (b : Bank) (n : PortId) : Work → Bool
  | .read | .write _ => true
  | .atomic _ _ => isPairAt (s.activeRow b) s.slots n s.scheduler.position

/-- A mirrored write or atomic needs free capacity in the partner backlog (R30). -/
def State.mirrorRoom (s : State) (b : Bank) (e : QueueEntry) : Bool :=
  !(e.work.writes && e.mirror) || (s.mirrors.get (partnerBank b)).hasRoom

/-- Whether a candidate may be granted in the current slot of its bank (R29, R30). -/
def State.eligible (s : State) (b : Bank) (n : PortId) (e : QueueEntry) : Bool :=
  s.atomicSlot b n e.work && s.mirrorRoom b e

/-- The candidate of a port for a bank, if it is eligible. -/
def State.eligibleCandidate (s : State) (b : Bank) (n : PortId) : Option QueueEntry :=
  (s.candidate n b).filter fun e => s.eligible b n e

/-- The four ports in the order of an OPEN arbitration: from the pointer onward, wrapping from 3 to 0 (R35). -/
def portsFrom (pointer : PortId) : List PortId := [pointer, pointer + 1, pointer + 2, pointer + 3]

/-- The winner of an OPEN slot: the first port examined whose candidate is eligible (R35). -/
def State.openWinner (s : State) (b : Bank) : Option PortId :=
  (portsFrom (s.scheduler.pointers.get b)).find? fun n => (s.eligibleCandidate b n).isSome

/-! ### Grants, service, refresh -/

/-- The bank offset that the sequencer of bank `b` presents for an address at a slot start, under the ACTIVE geometry (R9, R11). -/
def State.presentedOffset (s : State) (b : Bank) (address : Address) : Nat :=
  bankOffset s.commit.active.geometry b address

/-- The fields of an entry that its bank sequencer is handed, with the bank offset presented (R32). -/
def QueueEntry.access (e : QueueEntry) (n : PortId) (offset : Nat) : PortAccess :=
  ⟨n, e.ref, e.address, offset, e.length, e.mirror⟩

/-- The operation of a grant (R32, R44). -/
def QueueEntry.operation (e : QueueEntry) (n : PortId) (offset : Nat) : Operation :=
  match e.work with
  | .read => .portRead (e.access n offset)
  | .write beats => .portWrite (e.access n offset) beats
  | .atomic _ _ => .atomicRead (e.access n offset)

/-- The pair that a grant begins: for an atomic alone (R44). -/
def QueueEntry.pair (e : QueueEntry) (n : PortId) (offset : Nat) : Option AtomicPair :=
  match e.work with
  | .read | .write _ => none
  | .atomic kind operand => some ⟨e.access n offset, kind, operand, .first, none⟩

/-- The entry after its grant: IN-SLOT, or LINKED for an atomic; it does not expire any more (R32, R44, R67). -/
def QueueEntry.granted (e : QueueEntry) : QueueEntry :=
  match e.work with
  | .read | .write _ => { e with state := .inSlot, expiring := false }
  | .atomic _ _ => { e with state := .linked, expiring := false }

/-- A grant of an entry of port `n` on bank `b` (R32, R44): the entry's state, the sequencer's operation with the bank offset of its
first beat (R9), and for a mirrored write or atomic one reservation at the partner bank (R76). -/
def State.grant (s : State) (b : Bank) (n : PortId) (e : QueueEntry) : State :=
  let offset := s.presentedOffset b e.address
  let s₁ := s.updateEntry n e.ref QueueEntry.granted
  let s₂ := s₁.setSequencer b
    { s₁.banks.get b with operation := some (e.operation n offset), pair := e.pair n offset }
  if e.work.writes && e.mirror then s₂.reserve (partnerBank b) else s₂

/-- The operation that performs a backlog entry at the bank offset of its address (R33). -/
def BacklogEntry.operation (e : BacklogEntry) (offset : Nat) : Operation :=
  match e.work with
  | .secondaryWrite beats => .secondaryWrite offset beats
  | .recoveryRead n ref => .recoveryRead offset e.length n ref

/-- The bank serves its backlog head if it has one, and otherwise does nothing (R33, R34). -/
def State.serveBacklog (s : State) (b : Bank) : State :=
  match (s.mirrors.get b).head with
  | some e =>
    (s.setBacklog b { s.mirrors.get b with entries := markHead (s.mirrors.get b).entries }).giveOperation b
      (e.operation (s.presentedOffset b e.address))
  | none => s

/-- The pointer of a bank after a port has won an OPEN slot (R36). -/
def State.movePointer (s : State) (b : Bank) (winner : PortId) : State :=
  s.setScheduler { s.scheduler with pointers := s.scheduler.pointers.set b (winner + 1) }

/-- A slot of port `n` (R21, R34). -/
def State.portSlot (s : State) (b : Bank) (n : PortId) : State :=
  match s.eligibleCandidate b n with
  | some e => s.grant b n e
  | none => s.serveBacklog b

/-- An OPEN slot (R22, R36). -/
def State.openSlot (s : State) (b : Bank) : State :=
  match s.openWinner b with
  | some n =>
    match s.eligibleCandidate b n with
    | some e => (s.grant b n e).movePointer b n
    | none => s.serveBacklog b
  | none => s.serveBacklog b

/-- A REFRESH slot (R24, R100). -/
def State.refreshSlot (s : State) (b : Bank) : State :=
  match s.commit.active.geometry.kind with
  | .dynamic => s.giveOperation b .refresh
  | .static => s

/-- The code of the bank's row decides (R21 to R25). -/
def State.codeSlot (s : State) (b : Bank) : State :=
  match s.currentCode b with
  | .port n => s.portSlot b n
  | .openSlot => s.openSlot b
  | .mirror => s.serveBacklog b
  | .refresh => s.refreshSlot b
  | .idle => s

/-- The operation of a pair's second slot: the write of the new value after a good read, none otherwise (R26, R46, R47). -/
def AtomicPair.secondOperation (p : AtomicPair) : Option Operation :=
  match p.result with
  | some (.good _ newValue) => some (.atomicWrite p.access newValue)
  | some (.failed _) | none => none

/-- The pair at its second slot start, with the bank offset presented anew (R11). -/
def AtomicPair.atSecond (p : AtomicPair) (offset : Nat) : AtomicPair :=
  { p with access := { p.access with offset := offset }, slot := .second }

/-- The second slot of a pair holds the bank (R26). -/
def State.holdSecond (s : State) (b : Bank) (p : AtomicPair) : State :=
  let q := p.atSecond (s.presentedOffset b p.access.address)
  s.setSequencer b { s.banks.get b with operation := q.secondOperation, pair := some q }

/-- The catch-up refresh: the debt is cleared at the slot start (R103). -/
def State.catchUp (s : State) (b : Bank) : State :=
  s.setSequencer b { s.banks.get b with operation := some .catchUpRefresh, debt := false }

/-- What a used bank does in the slot that starts (R20). -/
def State.decideUsed (s : State) (b : Bank) : State :=
  match (s.banks.get b).pair with
  | some p => s.holdSecond b p
  | none =>
    if s.scheduler.position = 0 ∧ (s.banks.get b).debt then s.catchUp b else s.codeSlot b

/-- What a bank does in the slot that starts; a bank whose row is not used does nothing (R19, R20). -/
def State.decideBank (s : State) (b : Bank) : State :=
  if rowUsed s.commit.active.geometry.split b then s.decideUsed b else s

/-- The slot in progress from now on (R12). -/
def State.beginSlot (s : State) : State := s.setScheduler { s.scheduler with timer := .running }

/-- A slot start (R20): a loss of lock that the boundary left due (R149; log entry 4) and the commit controller's reaction to the
boundary (R18, R129) come first; the freed backlog places count from here on (R78, R92); then every bank decides for itself (R38). -/
def State.startSlot (s : State) : State :=
  (allBanks.foldl State.decideBank (s.loseLock.commitReaction []).openFreedPlaces).beginSlot

/-- A slot start, if one falls now (R12). -/
def State.startIfDue (s : State) : State := if s.scheduler.timer = .starting then s.startSlot else s

/-- SLOT_START (R20). -/
def execSlotStart (s : State) : Host.Outcome State Fault Refusal :=
  .next (if s.scheduler.timer = .starting then s.startSlot else s)

end Sys2Proof.Machine
end

