-- ==== Sys2Proof/Machine/Completion.lean ====
section
/-! DEFINITION. The results that bank sequencers hand back at a slot end: READ_COMPLETE (04 R61, 05 R84, R85), WRITE_COMPLETE (R62, R77),
ATOMIC_READ_COMPLETE (03 R45, R47), ATOMIC_PAIR_END (R46, R47, R78), SECONDARY_WRITE_COMPLETE and RECOVERY_READ_COMPLETE (05 R80,
R86, R87), and the end of a refresh (06 R100). -/

namespace Sys2Proof.Machine

/-- An OK result of a READ (R61, R86). -/
def readResult (beats : List Beat) (recovered : Bool) : CompletionResult := ⟨.ok, beats, recovered⟩

/-- The position of the slot that ends, with which its records are stamped (R17). -/
def State.endingPosition (s : State) : Nat := s.scheduler.position

/-- The entry of a faulted READ without the mirror attribute, of a faulted mirrored READ whose partner backlog has room, or of one that
finds it full (R61, R84, R85); a place that a reset has freed in this slot is no room yet (R92). -/
def State.faultedRead (s : State) (b : Bank) (a : PortAccess) (e : QueueEntry) : State :=
  if !e.mirror then s.failEntry a.port e .dataFault .dataFault s.endingPosition
  else if (s.mirrors.get (partnerBank b)).hasRoom then
    (s.appendRecovery b e.address e.length a.port e.ref).updateEntry a.port e.ref fun x => { x with state := .recovering }
  else s.failEntry a.port e .dataFault .recoveryDropped s.endingPosition

/-- The byte of memory that the memory side reaches at a bank offset of bank `b`: the first address of the bank and the offset (R9;
log entry 6). -/
def State.place (s : State) (b : Bank) (offset : Nat) : Nat := bankBase s.commit.active.geometry b + offset

/-- The slot end of a granted READ (R61); the result of a detached READ is discarded (R70). -/
def State.endRead (s : State) (b : Bank) (a : PortAccess) : State :=
  let s₁ := s.clearOperation b
  match s₁.findEntry a.port a.ref with
  | none => s₁
  | some e =>
    if s₁.memory.parityFault (s.place b a.offset) a.length then s₁.faultedRead b a e
    else s₁.finishEntry a.port a.ref (readResult (s₁.memory.readBeats (s.place b a.offset) a.length) false)

/-- The primary write of an access on bank `b` is complete in memory, and a mirrored one appends its SECONDARY-WRITE (R62, R77). -/
def State.primaryWrite (s : State) (b : Bank) (a : PortAccess) (beats : List WriteBeat) : State :=
  let s₁ := s.setMemory (s.memory.writeBeats (s.place b a.offset) beats)
  if a.mirror then s₁.appendSecondary b a.address beats else s₁

/-- The entry of an access, unless it has been detached, leaves its queue with a result (R61, R62, R46; R70). -/
def State.finishAccess (s : State) (a : PortAccess) (r : CompletionResult) : State :=
  match s.findEntry a.port a.ref with
  | none => s
  | some _ => s.finishEntry a.port a.ref r

/-- The slot end of a granted WRITE (R62, R77, R97). -/
def State.endWrite (s : State) (b : Bank) (a : PortAccess) (beats : List WriteBeat) : State :=
  ((s.clearOperation b).primaryWrite b a beats).finishAccess a (bareResult .ok)

/-- The new value of an atomic (R41). -/
def AtomicKind.newValue : AtomicKind → Beat → Beat → Beat
  | .swap, _, operand => operand
  | .fetchAdd, oldValue, operand => oldValue + operand

/-- The outcome of an atomic's read on bank `b`: the old value, with the new value or the failed mark (R45, R47, R57). -/
def State.atomicOutcome (s : State) (b : Bank) (p : AtomicPair) : AtomicResult :=
  let oldValue := s.memory.readBeat (s.place b p.access.offset)
  if s.memory.parityFault (s.place b p.access.offset) 1 then .failed oldValue else .good oldValue (p.kind.newValue oldValue p.operand)

/-- The DATA-FAULT record of a failed atomic, made while its entry is still in the queue (R47, R52). -/
def State.reportFailedAtomic (s : State) (a : PortAccess) (r : AtomicResult) : State :=
  match r, s.findEntry a.port a.ref with
  | .failed _, some e => s.reportEntry .dataFault a.port e s.endingPosition
  | .failed _, none => s
  | .good _ _, _ => s

/-- The first slot end of an atomic's pair (R45, R47). -/
def State.endAtomicRead (s : State) (b : Bank) (p : AtomicPair) : State :=
  let r := s.atomicOutcome b p
  let s₁ := s.setSequencer b { s.banks.get b with operation := none, pair := some { p with result := some r } }
  (s₁.reportFailedAtomic p.access r).updateEntry p.access.port p.access.ref fun e => { e with atomicResult := some r }

/-- All eight lanes of one beat (R46, R97). -/
def fullBeat (d : Beat) : WriteBeat := ⟨0xFF, d⟩

/-- The end of a failed atomic: the reservation of a mirrored one is released (R47, R78). -/
def State.failedPairEnd (s : State) (b : Bank) (a : PortAccess) : State :=
  (if a.mirror then s.release (partnerBank b) else s).finishAccess a (bareResult .dataFault)

/-- The second slot end of an atomic's pair (R46, R47, R78). -/
def State.endPair (s : State) (b : Bank) (p : AtomicPair) : State :=
  let s₁ := s.setSequencer b { s.banks.get b with operation := none, pair := none }
  match p.result with
  | some (.good oldValue newValue) =>
    (s₁.primaryWrite b p.access [fullBeat newValue]).finishAccess p.access (readResult [oldValue] false)
  | some (.failed _) | none => s₁.failedPairEnd b p.access

/-- The slot end of a performed SECONDARY-WRITE (R79, R80, R97). -/
def State.endSecondary (s : State) (b : Bank) (offset : Nat) (beats : List WriteBeat) : State :=
  ((s.clearOperation b).setMemory (s.memory.writeBeats (s.place b offset) beats)).removePerformed b

/-- The slot end of a performed RECOVERY-READ (R80, R86, R87); its result is discarded when its queue entry is gone (R92, R93). -/
def State.endRecovery (s : State) (b : Bank) (offset length : Nat) (n : PortId) (ref : Nat) : State :=
  let s₁ := (s.clearOperation b).removePerformed b
  match s₁.findEntry n ref with
  | none => s₁
  | some e =>
    if s₁.memory.parityFault (s.place b offset) length then s₁.failEntry n e .dataFault .doubleFault s₁.endingPosition
    else (s₁.reportEntry .recovered n e s₁.endingPosition).finishEntry n ref
      (readResult (s₁.memory.readBeats (s.place b offset) length) true)

/-- The pair of a bank that is in the given slot. -/
def Sequencer.pairIn (q : Sequencer) (slot : PairSlot) : Option AtomicPair := q.pair.filter fun p => decide (p.slot = slot)

/-- The end of the slot in progress on one bank: whatever its sequencer still has to hand back is handed back (R12, Table 6-1). -/
def State.endBank (s : State) (b : Bank) : State :=
  match (s.banks.get b).pairIn .second with
  | some p => s.endPair b p
  | none =>
    match (s.banks.get b).operation with
    | some (.portRead a) => s.endRead b a
    | some (.portWrite a beats) => s.endWrite b a beats
    | some (.atomicRead _) =>
      match (s.banks.get b).pairIn .first with
      | some p => s.endAtomicRead b p
      | none => s.clearOperation b
    | some (.atomicWrite _ _) => s.clearOperation b
    | some (.secondaryWrite offset beats) => s.endSecondary b offset beats
    | some (.recoveryRead offset length n ref) => s.endRecovery b offset length n ref
    | some .refresh | some .catchUpRefresh => s.clearOperation b
    | none => s

/-- Whether the slot in progress is running (R12). -/
def State.inSlot (s : State) : Bool := decide (s.scheduler.timer = .running)

/-- READ_COMPLETE (R61): the result of the READ in progress on a bank is handed back. -/
def execReadComplete (b : Bank) (s : State) : Host.Outcome State Fault Refusal :=
  .next (match s.inSlot, (s.banks.get b).operation with
    | true, some (.portRead _) => s.settle.endBank b
    | _, _ => s)

/-- WRITE_COMPLETE (R62). -/
def execWriteComplete (b : Bank) (s : State) : Host.Outcome State Fault Refusal :=
  .next (match s.inSlot, (s.banks.get b).operation with
    | true, some (.portWrite _ _) => s.settle.endBank b
    | _, _ => s)

/-- ATOMIC_READ_COMPLETE (R45). -/
def execAtomicReadComplete (b : Bank) (s : State) : Host.Outcome State Fault Refusal :=
  .next (match s.inSlot, (s.banks.get b).operation with
    | true, some (.atomicRead _) => s.settle.endBank b
    | _, _ => s)

/-- ATOMIC_PAIR_END (R46, R47). -/
def execAtomicPairEnd (b : Bank) (s : State) : Host.Outcome State Fault Refusal :=
  .next (match s.inSlot, (s.banks.get b).pairIn .second with
    | true, some _ => s.settle.endBank b
    | _, _ => s)

/-- SECONDARY_WRITE_COMPLETE (R80). -/
def execSecondaryWriteComplete (b : Bank) (s : State) : Host.Outcome State Fault Refusal :=
  .next (match s.inSlot, (s.banks.get b).operation with
    | true, some (.secondaryWrite _ _) => s.settle.endBank b
    | _, _ => s)

/-- RECOVERY_READ_COMPLETE (R86, R87). -/
def execRecoveryReadComplete (b : Bank) (s : State) : Host.Outcome State Fault Refusal :=
  .next (match s.inSlot, (s.banks.get b).operation with
    | true, some (.recoveryRead _ _ _ _) => s.settle.endBank b
    | _, _ => s)

end Sys2Proof.Machine
end

