-- ==== Sys2Proof/Machine/SlotEnd.lean ====
section
/-! DEFINITION. The slot end and the cycle boundary: the next position (02 R13), the three kinds of boundary (R14), the cycle counter
(R15), the forced boundary (R16, 11 R186), truncations (09 R147, R148), refresh debt (06 R102), and the commands SLOT_END, TRUNCATION,
FORCED_BOUNDARY. -/

namespace Sys2Proof.Machine

/-- What a slot end is (R13). -/
inductive SlotEndKind where
  | plain | normal | truncated | forced
deriving DecidableEq, Repr

/-- The kind of the slot end that would be taken now (R13, R16, R147): a forced boundary takes up a truncation; a truncation that
falls at the end of slot L − 1 is a normal boundary. -/
def State.slotEndKind (s : State) : SlotEndKind :=
  if s.forcedFalls then .forced
  else if s.scheduler.position + 1 < s.slots then (if s.truncationFalls then .truncated else .plain)
  else .normal

/-- Every bank hands back what it still has to, rows in the order LC.0, LC.1, UC.0, UC.1 (R12; log entry 3). -/
def State.endBanks (s : State) : State := allBanks.foldl State.endBank s

/-- The refresh debt a truncated or forced boundary leaves on a bank (R102). -/
def State.debtAfterDrop (s : State) (b : Bank) (debt : Bool) : Bool :=
  debt || (rowUsed s.commit.active.geometry.split b && decide (s.commit.active.geometry.kind = .dynamic)
    && dropsRefresh (s.activeRow b) s.slots s.scheduler.position)

/-- Every sequencer examines the positions that the boundary drops (R102). -/
def State.setDebts (s : State) : State :=
  { s with banks := s.banks.mapBank fun b q => { q with debt := s.debtAfterDrop b q.debt } }

/-- The next slot is at `position`, about to start (R13). -/
def State.nextPosition (s : State) (position : Nat) : State :=
  s.setScheduler { s.scheduler with timer := .starting, position := position }

/-- The slot scheduler at a normal or truncated boundary (R14, R15). -/
def State.nextCycle (s : State) : State :=
  s.setScheduler { s.scheduler with
    timer := .starting, position := 0, cycleCount := s.scheduler.cycleCount + 1 }

/-- The reactions of the blocks to a normal or truncated boundary that are taken with the slot end: ageing (R64), the sync unit (R148,
R149), and the commit controller's reaction marked or taken (log entry 4). DESIGN CHOICE: every queue ages here, before any swap and any
slot start of the boundary, so an acceptance taken after one of these is taken after the ageing too (R58, R160; log entry 23). -/
def State.cycleReactions (s : State) (check : DrainCheckOrder) : State :=
  ((s.nextCycle.ageQueues).setSync s.sync.atBoundary).markReaction check

/-- Traffic that a traffic reset clears (R72, R93, R172): every queue, every completion list, every RECOVERY-READ that is not being
performed. -/
def State.clearTraffic (s : State) : State :=
  { s with
    queues := ⟨[], [], [], []⟩
    ports := s.ports.map fun p => { p with completions := [] }
    mirrors := s.mirrors.map fun l => l.dropRecoveries none }

/-- The slot scheduler at a forced boundary (R14, R37). -/
def forcedScheduler : Scheduler := ⟨.starting, 0, 0, ⟨0, 0, 0, 0⟩, false⟩

/-- The sync and capture unit at a forced boundary (R150, R152). -/
def forcedSync (enable : Bool) : SyncUnit :=
  ⟨if enable then .seeking else .free, 0, 0, false, false, [], false, false⟩

/-- The forced boundary (R16, R186): refresh debts by the dropped positions, traffic cleared, scheduler and sync unit restarted, fault
queue emptied. -/
def State.forcedBoundary (s : State) : State :=
  let s₁ := s.setDebts.clearTraffic
  let s₂ := (s₁.setScheduler forcedScheduler).setSync (forcedSync s₁.commit.active.syncEnable)
  s₂.setLink { s₂.link with faults := [], faultOverflow := false }

/-- The slot end once every result has been handed back (R13). -/
def State.advance (s : State) (check : DrainCheckOrder) : State :=
  match s.slotEndKind with
  | .plain => s.nextPosition (s.scheduler.position + 1)
  | .normal => s.cycleReactions check
  | .truncated => s.setDebts.cycleReactions check
  | .forced => s.forcedBoundary

/-- The end of the slot in progress (R12, R13): what the last boundary still owed, every result, then the next position. -/
def State.endSlot (s : State) (check : DrainCheckOrder) : State := s.settle.endBanks.advance check

/-- SLOT_END (R12, R13): the slot timer ends the slot in progress, whatever kind of slot end it is. -/
def execSlotEnd (check : DrainCheckOrder) (s : State) : Host.Outcome State Fault Refusal :=
  .next (if s.inSlot then s.endSlot check else s)

/-- TRUNCATION (R147): the slot end at which a pending truncation falls. -/
def execTruncation (check : DrainCheckOrder) (s : State) : Host.Outcome State Fault Refusal :=
  .next (if s.inSlot && s.truncationFalls && !s.forcedFalls then s.endSlot check else s)

/-- FORCED_BOUNDARY (R16): the slot end at which the forced boundary due falls. -/
def execForcedBoundary (s : State) : Host.Outcome State Fault Refusal :=
  .next (if s.inSlot && s.forcedFalls then s.endSlot .checkAfterExpiry else s)

end Sys2Proof.Machine
end

