-- ==== Sys2Proof/Machine/Ports.lean ====
section
/-! DEFINITION. The initiator ports (10) and the resets of the part: ACCEPTANCE (R161 to R166), RESPONSE_TRANSFER (R155), PORT_RESET and
PORT_RESET_RELEASE (R170, R171), POWER_ON_RESET (11 R187) and RESET_N_RELEASE (02 R12), and the change that memory makes on its own,
MEMORY_DEVICE_CHANGE (06 R96). -/

namespace Sys2Proof.Machine

/-! ### Acceptance and responses -/

/-- A completion entry at the young end of a port's list; the next reference moves on. -/
def State.addCompletion (s : State) (n : PortId) (m : RequestMessage) (c : CompletionState) : State :=
  { s.setCompletions n ((s.ports.get n).completions ++ [⟨s.nextRef, m.tag, m.kind, c⟩]) with nextRef := s.nextRef + 1 }

/-- The queue entry of an accepted request (R57, R165). -/
def newEntry (ref : Nat) (m : RequestMessage) (b : Bank) (mirror : Bool) : QueueEntry :=
  ⟨ref, workOf m, m.address, m.length.toNat, b, mirror, 0, .waiting, none, false⟩

/-- A request that passes the four checks (R58, R165). -/
def State.acceptRequest (s : State) (n : PortId) (m : RequestMessage) (b : Bank) (mirror : Bool) : State :=
  (s.setQueue n ((s.queues.get n) ++ [newEntry s.nextRef m b mirror])).addCompletion n m .pending

/-- A request that is refused: DONE at once, and one record (R161, R166). -/
def State.refuseRequest (s : State) (n : PortId) (m : RequestMessage) (status : ResponseStatus) (kind : FaultKind)
    (bank : Option Bank) (region : Option (Fin 16)) : State :=
  (s.report (s.requestRecord kind n (some m.tag) m.address bank region s.scheduler.position)).addCompletion n m
    (.done (bareResult status))

/-- A request taken at its acceptance event (R161). -/
def State.takeRequest (s : State) (n : PortId) (m : RequestMessage) : State :=
  match acceptanceDecision s.commit.active n m with
  | .refuse status kind bank region => s.refuseRequest n m status kind bank region
  | .accept b mirror => s.acceptRequest n m b mirror

/-- ACCEPTANCE (R153, R159, R161): a presented request is taken while the gate is open, and stays presented, untaken, while it is
closed. -/
def execAcceptance (n : PortId) (m : RequestMessage) (s : State) : Host.Outcome State Fault Refusal :=
  .next (if s.gateOpen n then s.takeRequest n m else s)

/-- RESPONSE_TRANSFER (R155): the offered response passes and its completion entry is removed; nothing passes where none is offered. -/
def execResponseTransfer (n : PortId) (s : State) : Host.Outcome State Fault Refusal :=
  .next (match s.offered n with
    | some _ => s.setCompletions n (s.ports.get n).completions.tail
    | none => s)

/-! ### Port reset -/

/-- What the assertion of PRSTn takes from the part: the port's completion list (R170), its queue (R70), and its RECOVERY-READs that are
not being performed; the places they free count as free capacity from the next slot start (R92). -/
def State.clearPort (s : State) (n : PortId) : State :=
  { (s.setQueue n []).setCompletions n [] with mirrors := s.mirrors.map fun l => l.dropRecoveries (some n) }

/-- PORT_RESET (R170). -/
def execPortReset (n : PortId) (s : State) : Host.Outcome State Fault Refusal :=
  .next ((s.clearPort n).setResetLine n true)

/-- PORT_RESET_RELEASE (R171). -/
def execPortResetRelease (n : PortId) (s : State) : Host.Outcome State Fault Refusal :=
  .next (s.setResetLine n false)

/-! ### Power-on reset -/

/-- Every block at its power-on values with RESET_N asserted (R187); memory is as it was (R96), and so are the input lines (PRSTn,
select) and the commands that wait. -/
def State.powerOn (s : State) : State :=
  { State.reset with
    scheduler := { resetScheduler with timer := .stopped }
    ports := s.ports.map fun p => { p with completions := [] }
    link := { resetLink with selectActive := s.link.selectActive }
    memory := s.memory
    pending := s.pending }

/-- POWER_ON_RESET (R187). -/
def execPowerOnReset (s : State) : Host.Outcome State Fault Refusal := .next s.powerOn

/-- RESET_N_RELEASE (R12): the slot timer runs, and the first slot is about to start at position 0. -/
def execResetNRelease (s : State) : Host.Outcome State Fault Refusal :=
  .next (if s.inReset then s.setScheduler { s.scheduler with timer := .starting } else s)

/-! ### Memory -/

/-- MEMORY_DEVICE_CHANGE (R96): the byte at an address becomes parity-faulty. -/
def execMemoryDeviceChange (address : Address) (value : Byte) (s : State) : Host.Outcome State Fault Refusal :=
  if address.toNat < Config.memoryBytes then .next (s.setMemory (s.memory.spoilByte address.toNat value))
  else .fault (.memoryAbsent address)

end Sys2Proof.Machine
end

