-- ==== Sys2Proof/Machine/Sync.lean ====
section
/-! DEFINITION. The sync and capture unit's inputs: SYNC_PULSE (09 R144 to R146) and STROBE_EDGE (R151). -/

namespace Sys2Proof.Machine

/-- The pulses the sync unit ignores (R142, R144). -/
def State.pulseIgnored (s : State) : Bool :=
  s.inReset || decide (s.sync.state = .free) || s.sync.truncationPending || s.sync.pulseMark || s.scheduler.forcedDue

/-- A pulse is on time in the last slot of the cycle (R144). -/
def State.pulseOnTime (s : State) : Bool := decide (s.slots ≤ s.scheduler.position + 1)

/-- An on-time pulse (R145). -/
def State.onTimePulse (s : State) : State :=
  s.setSync { s.sync with state := .locked, missCount := 0, pulseMark := true }

/-- The slip count increased by one, saturating at 255, by an early pulse in LOCKED (R146). -/
def SyncUnit.slipAfter (u : SyncUnit) : Nat := if u.state = .locked then min 255 (u.slipCount + 1) else u.slipCount

/-- An early pulse in LOCKED is reported (R146). -/
def State.reportSlip (s : State) : State :=
  if s.sync.state = .locked then s.report (s.syncRecord .syncSlip s.scheduler.position) else s

/-- An early pulse (R146). -/
def State.earlyPulse (s : State) : State :=
  s.reportSlip.setSync { s.sync with
    state := .locked, slipCount := s.sync.slipAfter, missCount := 0, truncationPending := true, pulseMark := true }

/-- A pulse that is not ignored, judged by the position (R144). -/
def State.judgePulse (s : State) : State :=
  if s.pulseIgnored then s else if s.pulseOnTime then s.onTimePulse else s.earlyPulse

/-- What the last boundary still owes the sync unit comes before a pulse of the new cycle: the commit controller's reaction if no slot
has started since, and the loss of lock (R143, R144; log entry 5). -/
def State.beforePulse (s : State) : State :=
  (if s.scheduler.timer = .starting then s.commitReaction [] else s).loseLock

/-- SYNC_PULSE (R144). -/
def execSyncPulse (s : State) : Host.Outcome State Fault Refusal := .next s.beforePulse.judgePulse

/-- STROBE_EDGE (R151): ignored in reset (R142) and while strobe capture is off. -/
def execStrobeEdge (s : State) : Host.Outcome State Fault Refusal :=
  .next (if !s.inReset && s.link.strobeCapture then s.capture .strobe else s)

end Sys2Proof.Machine
end

