-- ==== Sys2Proof/Machine/Validation.lean ====
section
/-! DEFINITION. Validation of a plan (08 R126): NO-REFRESH (06 R101), NO-TURNAROUND (03 R55), and the region checks (07 R117 to
R120). -/

namespace Sys2Proof.Machine

/-- Whether a row holds REFRESH at a used position (R101). -/
def rowRefreshes (r : Row) (slots : Nat) : Bool :=
  allPositions.any fun p => decide (p < slots) && decide (r.codeAt p = .refresh)

/-- NO-REFRESH: the first used row without a REFRESH, under DYNAMIC (R101). -/
def refreshFailure (p : Plan) : Option PlanFailure :=
  match p.geometry.kind with
  | .static => none
  | .dynamic =>
    (allBanks.find? fun b =>
      rowUsed p.geometry.split b && !rowRefreshes (p.grid.get b) p.geometry.cycleLength.slots).map .noRefresh

/-- Whether a code is a port code. -/
def SlotCode.isPort : SlotCode → Bool
  | .port _ => true
  | .openSlot | .mirror | .refresh | .idle => false

/-- Whether position `p` is the first of a run of two or more equal port codes within the cycle (R55). -/
def startsRun (r : Row) (slots p : Nat) : Bool :=
  decide (p + 1 < slots) && (r.codeAt p).isPort && decide (r.codeAt (p + 1) = r.codeAt p)
    && (decide (p = 0) || decide (r.codeAt (p - 1) ≠ r.codeAt p))

/-- The position before `p` in the cycle (R55). -/
def positionBefore (slots p : Nat) : Nat := if p = 0 then slots - 1 else p - 1

/-- Whether a run that starts at `p` of row `b` lacks its turnaround (R55). -/
def lacksTurnaround (p : Plan) (b : Bank) (position : Nat) : Bool :=
  startsRun (p.grid.get b) p.geometry.cycleLength.slots position
    && !(decide ((p.grid.get b).codeAt (positionBefore p.geometry.cycleLength.slots position) = .idle)
      && decide ((p.grid.get (siblingRow b)).codeAt (positionBefore p.geometry.cycleLength.slots position) = .idle))

/-- The first failing run of a row (R55). -/
def rowTurnaroundFailure (p : Plan) (b : Bank) : Option PlanFailure :=
  (allPositions.find? (lacksTurnaround p b)).map (.noTurnaround b)

/-- NO-TURNAROUND, under split mode: rows in order, runs by ascending first position (R55). -/
def turnaroundFailure (p : Plan) : Option PlanFailure :=
  if p.geometry.split then allBanks.findSome? (rowTurnaroundFailure p) else none

/-- The three region checks of one entry (R117 to R120). -/
def entryFailure (p : Plan) (i : Fin 16) : Option PlanFailure :=
  let e := p.region i
  if !e.enabled then none
  else if e.limitPage.toNat < e.basePage.toNat then some (.regionOrder i)
  else if pagesInMemory p.geometry.size ≤ e.limitPage.toNat then some (.regionRange i)
  else if e.mirror && decide (e.basePage.toNat < pagesPerChannel p.geometry.size)
      && decide (pagesPerChannel p.geometry.size ≤ e.limitPage.toNat) then some (.mirrorSpan i)
  else none

/-- The region checks, entries by ascending index (R117). -/
def regionFailure (p : Plan) : Option PlanFailure := allRegions.findSome? (entryFailure p)

/-- Validation: the first failure found, in the order of Table 8-2 (R126). -/
def validate (p : Plan) : Option PlanFailure :=
  match refreshFailure p with
  | some f => some f
  | none =>
    match turnaroundFailure p with
    | some f => some f
    | none => regionFailure p

end Sys2Proof.Machine
end

