-- ==== Sys2Proof/WellFormed.lean ====
section
/-! DEFINITION. Which commands are well-formed: BAD_COMMAND is the event of a code byte that names no command (R173, Table 12-5), and
MEMORY_DEVICE_CHANGE happens at a byte that memory has (R3, R96). Every other command is well-formed by its type. -/

namespace Sys2Proof

/-- The fifteen command codes of Table 12-5. -/
def commandCodes : List Byte :=
  [0x01, 0x02, 0x03, 0x04, 0x10, 0x11, 0x12, 0x13, 0x14, 0x18, 0x20, 0x21, 0x30, 0x31, 0x3C]

/-- The commands that can be the event they name. -/
def Instr.wf : Instr → Bool
  | .badCommand code => !commandCodes.contains code
  | .memoryDeviceChange address _ => decide (address.toNat < Config.memoryBytes)
  | .powerOnReset | .resetNRelease | .portReset _ | .portResetRelease _ | .acceptance _ _ | .responseTransfer _
  | .slotStart | .slotEnd _ | .readComplete _ | .writeComplete _ | .atomicReadComplete _ | .atomicPairEnd _
  | .secondaryWriteComplete _ | .recoveryReadComplete _ | .timeout _ | .swapped _ | .abandoned | .truncation _
  | .forcedBoundary | .syncLost | .syncPulse | .strobeEdge | .selectRelease | .readStatus _ | .readFault _
  | .readCapture _ | .captureNow _ | .writeGrid _ _ _ _ | .writeRegion _ _ _ | .writeGeometry _ _
  | .writePortLimit _ _ _ | .restage _ | .readPlan _ _ _ | .commit _ | .cancelCommit _ | .setAlertMask _ _
  | .setStrobe _ _ | .trafficReset _ | .frameOpen | .replySpent => true

end Sys2Proof
end

