-- ==== Sys2Proof/Machine/Link.lean ====
section
/-! DEFINITION. The management link (11, 12): the frame receiver (R173) and the fifteen commands of Table 11-2. Each command is a
complete frame: its code, its argument bytes and its check byte (R174, R175). -/

namespace Sys2Proof.Machine

/-! ### The frame receiver (R173) -/

/-- FRAME_OPEN: select goes active; from IDLE a frame is opened, but not while RESET_N is asserted (R173, R187). -/
def execFrameOpen (s : State) : Host.Outcome State Fault Refusal :=
  .next (if s.link.selectActive then s
    else s.setLink { s.link with selectActive := true, receiver := if s.inReset then s.link.receiver else .receiving })

/-- SELECT_RELEASE: the receiver returns to IDLE, and a frame or the rest of a reply is dropped (R173). -/
def execSelectRelease (s : State) : Host.Outcome State Fault Refusal :=
  .next (s.setLink { s.link with selectActive := false, receiver := .idle })

/-- REPLY_SPENT: the last byte of the reply has been shifted out (R173). -/
def execReplySpent (s : State) : Host.Outcome State Fault Refusal :=
  .next (match s.link.receiver with
    | .replying _ => s.setLink { s.link with receiver := .spent }
    | .idle | .receiving | .spent => s)

/-- BAD_COMMAND: a code byte that names no command is answered BAD-COMMAND (R173). -/
def execBadCommand (code : Byte) (s : State) : Host.Outcome State Fault Refusal :=
  .next (if s.link.receiver = .receiving ∧ Sys2Proof.commandCodes.contains code = false then s.answer .badCommand [] else s)

/-! ### Status, records, captures -/

/-- Byte 0 of the status block (Table 12-7). -/
def statusByte0 (c : CommitController) : Byte :=
  byteOf (c.state.number + bitOf c.record.unreported 2 + 16 * (c.record.last.map fun o => o.1.number).getD 0)

/-- The status block (R176, Table 12-7). -/
def State.statusBlock (s : State) : List Byte :=
  [statusByte0 s.commit]
    ++ (s.commit.record.last.map fun o => o.1.reasonAndLocation).getD [0, 0]
    ++ bytes16 ((s.commit.record.last.map fun o => o.2.toNat).getD 0)
    ++ [byteOf (s.sync.state.number + 4 * s.sync.missCount), byteOf s.sync.slipCount,
        byteOf (s.link.faults.length + bitOf s.link.faultOverflow 7),
        byteOf (s.sync.captures.length + bitOf s.sync.captureOverflow 7)]
    ++ bytes16 s.scheduler.cycleCount.toNat ++ [s.link.alertMask.image]

/-- The unreported flag and both overflow flags cleared (R176). -/
def State.clearReported (s : State) : State :=
  ((s.setCommit { s.commit with record := { s.commit.record with unreported := false } }).setSync
    { s.sync with captureOverflow := false }).setLink { s.link with faultOverflow := false }

/-- READ_STATUS (R176). DESIGN CHOICE: one named between the slot end of a boundary and the next slot start returns the new cycle count with
the sync state, the miss count and the commit state from before what the boundary still owes: a loss of lock, a swap, an abandonment
(log entry 5). -/
def execReadStatus (check : Byte) (s : State) : Host.Outcome State Fault Refusal :=
  .next (s.takeFrame [0x01] check fun t => ⟨t.clearReported, .ok, t.statusBlock⟩)

/-- The effect of READ-FAULT (R183). -/
def State.popFault (s : State) : Effect :=
  match s.link.faults with
  | [] => refusal s .empty
  | r :: rest => ⟨s.setLink { s.link with faults := rest }, .ok, faultImage r⟩

/-- READ_FAULT (R183). -/
def execReadFault (check : Byte) (s : State) : Host.Outcome State Fault Refusal :=
  .next (s.takeFrame [0x02] check State.popFault)

/-- The effect of READ-CAPTURE (R152). -/
def State.popCapture (s : State) : Effect :=
  match s.sync.captures with
  | [] => refusal s .empty
  | r :: rest => ⟨s.setSync { s.sync with captures := rest }, .ok, captureImage r⟩

/-- READ_CAPTURE (R152). -/
def execReadCapture (check : Byte) (s : State) : Host.Outcome State Fault Refusal :=
  .next (s.takeFrame [0x03] check State.popCapture)

/-- CAPTURE_NOW (R180). -/
def execCaptureNow (check : Byte) (s : State) : Host.Outcome State Fault Refusal :=
  .next (s.takeFrame [0x04] check fun t => done (t.capture .command))

/-! ### Staged edits -/

/-- The STAGED plan replaced. -/
def State.setStaged (s : State) (p : Plan) : State := s.setCommit { s.commit with staged := p }

/-- A staged edit: BUSY while a commit is pending, BAD-ARGUMENT when the arguments describe none, and otherwise the edit (R123, R125,
R175). -/
def State.editStaged (s : State) (edited : Option Plan) : Effect :=
  if s.commit.state ≠ .none then refusal s .busy
  else
    match edited with
    | none => refusal s .badArgument
    | some p => done (s.setStaged p)

/-- The plan with one slot code written, if the arguments name a row, a position and a code (R123, R190). -/
def Plan.withCode (p : Plan) (row position code : Byte) : Option Plan :=
  match bankOfRow row.toNat, positionOf position, slotCodeOf code.toNat with
  | some b, some q, some c => some { p with grid := p.grid.set b ((p.grid.get b).setCode q c) }
  | _, _, _ => none

/-- WRITE_GRID (R123). -/
def execWriteGrid (row position code check : Byte) (s : State) : Host.Outcome State Fault Refusal :=
  .next (s.takeFrame [0x10, row, position, code] check fun t =>
    t.editStaged (t.commit.staged.withCode row position code))

/-- The plan with one region entry written, all six fields (R123, R190). -/
def Plan.withRegion (p : Plan) (index : Byte) (image : Vector Byte 6) : Option Plan :=
  match regionOf index, regionOfImage image with
  | some i, some e => some { p with regions := p.regions.set i.val e }
  | _, _ => none

/-- WRITE_REGION (R123). -/
def execWriteRegion (index : Byte) (image : Vector Byte 6) (check : Byte) (s : State) : Host.Outcome State Fault Refusal :=
  .next (s.takeFrame ([0x11, index] ++ image.toList) check fun t => t.editStaged (t.commit.staged.withRegion index image))

/-- The plan with its seven geometry and general fields written together (R123). -/
def Plan.withGeneral (p : Plan) (image : Vector Byte 4) : Option Plan :=
  (generalOfImage image).map fun f =>
    { p with geometry := f.geometry, syncEnable := f.syncEnable, defaultPolicy := f.defaultPolicy, drainLimit := f.drainLimit }

/-- WRITE_GEOMETRY (R123). -/
def execWriteGeometry (image : Vector Byte 4) (check : Byte) (s : State) : Host.Outcome State Fault Refusal :=
  .next (s.takeFrame ([0x12] ++ image.toList) check fun t => t.editStaged (t.commit.staged.withGeneral image))

/-- The plan with one wait limit written (R123). -/
def Plan.withLimit (p : Plan) (port limit : Byte) : Option Plan :=
  (portOf port).map fun n => { p with waitLimits := p.waitLimits.set n limit }

/-- WRITE_PORT_LIMIT (R123). -/
def execWritePortLimit (port limit check : Byte) (s : State) : Host.Outcome State Fault Refusal :=
  .next (s.takeFrame [0x13, port, limit] check fun t => t.editStaged (t.commit.staged.withLimit port limit))

/-- RESTAGE (R124). -/
def execRestage (check : Byte) (s : State) : Host.Outcome State Fault Refusal :=
  .next (s.takeFrame [0x14] check fun t => t.editStaged (some t.commit.active))

/-- The plan a plan selector names (Table 12-6). -/
def CommitController.planOf (c : CommitController) (selector : Byte) : Option Plan :=
  match selector.toNat with
  | 0 => some c.active
  | 1 => some c.staged
  | _ => none

/-- The effect of READ-PLAN (R177). -/
def State.readPlan (s : State) (plan item : Byte) : Effect :=
  match (s.commit.planOf plan).bind fun p => planItem p item with
  | some bytes => ⟨s, .ok, bytes⟩
  | none => refusal s .badArgument

/-- READ_PLAN (R177). -/
def execReadPlan (plan item check : Byte) (s : State) : Host.Outcome State Fault Refusal :=
  .next (s.takeFrame [0x18, plan, item] check fun t => t.readPlan plan item)

/-! ### Commit -/

/-- The STAGED plan carries a geometry change (R121). -/
def CommitController.geometryChange (c : CommitController) : Bool := decide (c.staged.geometry ≠ c.active.geometry)

/-- The commit state becomes DRAINING with a drain count of 0 (R128). -/
def State.startDrain (s : State) : State := s.setCommit { s.commit with state := .draining, drainCount := 0 }

/-- The effect of COMMIT (R128, R178): the result bytes are the result, the reason and the location. -/
def State.tryCommit (s : State) : Effect :=
  if s.commit.state ≠ .none then refusal s .busy
  else
    match validate s.commit.staged with
    | some f => ⟨s.recordOutcome (.refused f), .ok, [0x02, f.reason, f.location]⟩
    | none =>
      if s.commit.geometryChange then ⟨s.startDrain, .ok, [0x01, 0x00, 0x00]⟩
      else ⟨s.setCommitState .waiting, .ok, [0x00, 0x00, 0x00]⟩

/-- COMMIT (R128). -/
def execCommit (check : Byte) (s : State) : Host.Outcome State Fault Refusal :=
  .next (s.takeFrame [0x20] check State.tryCommit)

/-- A pending commit ends without a swap, with an outcome (R135, R137). -/
def State.endCommit (s : State) (o : CommitOutcome) : State :=
  if s.commit.state = .none then s else (s.recordOutcome o).setCommitState .none

/-- The effect of CANCEL-COMMIT (R135). -/
def State.cancel (s : State) : Effect :=
  if s.commit.state = .none then refusal s .empty else done (s.endCommit .cancelled)

/-- CANCEL_COMMIT (R135). -/
def execCancelCommit (check : Byte) (s : State) : Host.Outcome State Fault Refusal :=
  .next (s.takeFrame [0x21] check State.cancel)

/-! ### Settings and TRAFFIC-RESET -/

/-- The effect of SET-ALERT-MASK (R179). -/
def State.writeMask (s : State) (mask : Byte) : Effect :=
  match maskOf mask with
  | some m => done (s.setLink { s.link with alertMask := m })
  | none => refusal s .badArgument

/-- SET_ALERT_MASK (R179). -/
def execSetAlertMask (mask check : Byte) (s : State) : Host.Outcome State Fault Refusal :=
  .next (s.takeFrame [0x30, mask] check fun t => t.writeMask mask)

/-- The effect of SET-STROBE (R179). -/
def State.writeStrobe (s : State) (setting : Byte) : Effect :=
  match setting.toNat with
  | 0 => done (s.setLink { s.link with strobeCapture := false })
  | 1 => done (s.setLink { s.link with strobeCapture := true })
  | _ => refusal s .badArgument

/-- SET_STROBE (R179). -/
def execSetStrobe (setting check : Byte) (s : State) : Host.Outcome State Fault Refusal :=
  .next (s.takeFrame [0x31, setting] check fun t => t.writeStrobe setting)

/-- The instant TRAFFIC-RESET takes effect (R185): traffic cleared, a pending commit ended ABORTED-BY-RESET, a forced boundary due. -/
def State.trafficReset (s : State) : State :=
  let s₁ := s.clearTraffic.endCommit .abortedByReset
  s₁.setScheduler { s₁.scheduler with forcedDue := true }

/-- TRAFFIC_RESET (R185). Taken between a slot end and the next slot start, it is taken after the slot start (R16, R138; log
entry 5). -/
def execTrafficReset (check : Byte) (s : State) : Host.Outcome State Fault Refusal :=
  .next (s.takeFrame [0x3C] check fun t => done t.startIfDue.trafficReset)

end Sys2Proof.Machine
end

