-- ==== Sys2Proof/Machine/Dispatch.lean ====
section
/-! DEFINITION. One arm for each command. -/

namespace Sys2Proof.Machine

/-- The command's effect on everything but the queue of waiting commands. -/
def exec (i : Instr) (s : State) : Host.Outcome State Fault Refusal :=
  match i with
  | .powerOnReset => Sys2Proof.Machine.execPowerOnReset s
  | .resetNRelease => Sys2Proof.Machine.execResetNRelease s
  | .portReset port => Sys2Proof.Machine.execPortReset port s
  | .portResetRelease port => Sys2Proof.Machine.execPortResetRelease port s
  | .acceptance port message => Sys2Proof.Machine.execAcceptance port message s
  | .responseTransfer port => Sys2Proof.Machine.execResponseTransfer port s
  | .slotStart => Sys2Proof.Machine.execSlotStart s
  | .slotEnd check => Sys2Proof.Machine.execSlotEnd check s
  | .readComplete bank => Sys2Proof.Machine.execReadComplete bank s
  | .writeComplete bank => Sys2Proof.Machine.execWriteComplete bank s
  | .atomicReadComplete bank => Sys2Proof.Machine.execAtomicReadComplete bank s
  | .atomicPairEnd bank => Sys2Proof.Machine.execAtomicPairEnd bank s
  | .secondaryWriteComplete bank => Sys2Proof.Machine.execSecondaryWriteComplete bank s
  | .recoveryReadComplete bank => Sys2Proof.Machine.execRecoveryReadComplete bank s
  | .timeout turns => Sys2Proof.Machine.execTimeout turns s
  | .swapped turns => Sys2Proof.Machine.execSwapped turns s
  | .abandoned => Sys2Proof.Machine.execAbandoned s
  | .truncation check => Sys2Proof.Machine.execTruncation check s
  | .forcedBoundary => Sys2Proof.Machine.execForcedBoundary s
  | .syncLost => Sys2Proof.Machine.execSyncLost s
  | .syncPulse => Sys2Proof.Machine.execSyncPulse s
  | .strobeEdge => Sys2Proof.Machine.execStrobeEdge s
  | .selectRelease => Sys2Proof.Machine.execSelectRelease s
  | .badCommand code => Sys2Proof.Machine.execBadCommand code s
  | .readStatus check => Sys2Proof.Machine.execReadStatus check s
  | .readFault check => Sys2Proof.Machine.execReadFault check s
  | .readCapture check => Sys2Proof.Machine.execReadCapture check s
  | .captureNow check => Sys2Proof.Machine.execCaptureNow check s
  | .writeGrid row position code check => Sys2Proof.Machine.execWriteGrid row position code check s
  | .writeRegion index image check => Sys2Proof.Machine.execWriteRegion index image check s
  | .writeGeometry image check => Sys2Proof.Machine.execWriteGeometry image check s
  | .writePortLimit port limit check => Sys2Proof.Machine.execWritePortLimit port limit check s
  | .restage check => Sys2Proof.Machine.execRestage check s
  | .readPlan plan item check => Sys2Proof.Machine.execReadPlan plan item check s
  | .commit check => Sys2Proof.Machine.execCommit check s
  | .cancelCommit check => Sys2Proof.Machine.execCancelCommit check s
  | .setAlertMask mask check => Sys2Proof.Machine.execSetAlertMask mask check s
  | .setStrobe setting check => Sys2Proof.Machine.execSetStrobe setting check s
  | .trafficReset check => Sys2Proof.Machine.execTrafficReset check s
  | .frameOpen => Sys2Proof.Machine.execFrameOpen s
  | .replySpent => Sys2Proof.Machine.execReplySpent s
  | .memoryDeviceChange address value => Sys2Proof.Machine.execMemoryDeviceChange address value s

end Sys2Proof.Machine
end

