-- ==== Sys2Proof/Machine/Step.lean ====
section
/-! DEFINITION. A step takes the command at the front of the queue; an empty queue idles (log entry 2). -/

namespace Sys2Proof.Machine

/-- One step: the front command with the queue's rest; nothing on an empty queue. -/
def step (s : State) : Host.Outcome State Fault Refusal :=
  match s.pending with
  | [] => .next s
  | c :: rest => exec c { s with pending := rest }

/-- The state with the command that a word spells put at the front of its queue; unchanged where the word spells none. -/
def State.withFetchWord (s : State) (nbits w : Nat) : State :=
  match decodeTableWord nbits w with
  | none => s
  | some c => { s with pending := c :: s.pending }

end Sys2Proof.Machine
end

