-- ==== Sys2Proof/Safety.lean ====
section
/-! DEFINITION. What holds of the block at all times, in the terms the statements use: the ties between its lists (R56), the capacities
(R56, R73, R157, R181, R151), the reservations that are owed (R75), the plans (R129), the counters' ranges, the sync state (R142,
R143), what the banks perform (R26, R32, R33, R44), the recoveries (R63, R74), and the memory's canonical form. -/

namespace Sys2Proof.Machine

/-- The references of the PENDING entries of a completion list, in its order. -/
def pendingRefs (l : List CompletionEntry) : List Nat :=
  (l.filter fun c => decide (c.state = .pending)).map (·.ref)

/-- Every queue entry is tied to one PENDING completion entry of its port and every PENDING one to a queue entry, in the same order
(R56, R158). -/
abbrev State.Tied (s : State) : Prop :=
  ∀ n : PortId, (s.queues.get n).map (·.ref) = pendingRefs (s.ports.get n).completions

/-- References in use are below the next one, and no two entries of a list share one (log entry 12). -/
abbrev State.RefsFresh (s : State) : Prop :=
  ∀ n : PortId, ((s.ports.get n).completions.map (·.ref)).Nodup
    ∧ ∀ c ∈ (s.ports.get n).completions, c.ref < s.nextRef

/-- No list holds more than its capacity, a backlog counted with the places freed since the last slot start (R56, R157, R73, R92, R181,
R151). -/
abbrev State.WithinCapacity (s : State) : Prop :=
  (∀ n : PortId, (s.ports.get n).completions.length ≤ Config.completionCapacity
    ∧ (s.queues.get n).length ≤ (s.ports.get n).completions.length)
  ∧ (∀ b ∈ allBanks, (s.mirrors.get b).occupancy + (s.mirrors.get b).freed ≤ Config.backlogCapacity)
  ∧ s.link.faults.length ≤ Config.faultCapacity
  ∧ s.sync.captures.length ≤ Config.captureCapacity

/-- The reservation that the operation in progress on a bank still owes a resolution: one for a mirrored WRITE, none otherwise
(R76). -/
def Operation.owes : Operation → Nat
  | .portWrite a _ => if a.mirror then 1 else 0
  | .portRead _ | .atomicRead _ | .atomicWrite _ _ | .secondaryWrite _ _ | .recoveryRead _ _ _ _ | .refresh
  | .catchUpRefresh => 0

/-- The reservations that the work of one bank holds at its partner (R75, R76). -/
def Sequencer.owes (q : Sequencer) : Nat :=
  (q.operation.map Operation.owes).getD 0 + (q.pair.map fun p => if p.access.mirror then 1 else 0).getD 0

/-- The reservations of every backlog are those its partner bank's grants hold (R75, R76). -/
abbrev State.ReservationsOwed (s : State) : Prop :=
  ∀ b ∈ allBanks, (s.mirrors.get (partnerBank b)).reservations = (s.banks.get b).owes

/-- A bank that an atomic holds has no operation but the read of the pair's first slot or the write of its second, and only a bank that
an atomic holds has one of these (R26, R44, R46, R47). -/
def Sequencer.pairHolds (q : Sequencer) : Bool :=
  match q.pair, q.operation with
  | some p, some (.atomicRead a) => decide (p.slot = .first) && decide (a = p.access)
  | some p, some (.atomicWrite a _) => decide (p.slot = .second) && decide (a = p.access)
  | some _, none => true
  | some _, some _ => false
  | none, some (.atomicRead _) | none, some (.atomicWrite _ _) => false
  | none, _ => true

/-- Operations and pairs agree on every bank (R44). -/
abbrev State.PairsHold (s : State) : Prop := ∀ b ∈ allBanks, (s.banks.get b).pairHolds = true

/-- Between two slots no bank has an operation in progress, nor a pair past its first slot (R12, R95). -/
abbrev State.IdleBetweenSlots (s : State) : Prop :=
  s.scheduler.timer ≠ .running →
    ∀ b ∈ allBanks, (s.banks.get b).operation = none ∧ (s.banks.get b).pairIn .second = none

/-- Every value of a plan that is a number lies in its range (Table 8-1). -/
abbrev Plan.InRange (p : Plan) : Prop := 1 ≤ p.drainLimit ∧ p.drainLimit ≤ 4095

/-- The ACTIVE plan passes every validation check (R129); so does the STAGED plan while a commit is pending (R125), which differs from
it in geometry exactly when the commit drains (R128). -/
abbrev State.PlansValid (s : State) : Prop :=
  validate s.commit.active = none ∧ s.commit.active.InRange ∧ s.commit.staged.InRange
  ∧ (s.commit.state ≠ .none → validate s.commit.staged = none)
  ∧ (s.commit.state = .waiting → s.commit.staged.geometry = s.commit.active.geometry)
  ∧ (s.commit.state = .draining → s.commit.staged.geometry ≠ s.commit.active.geometry)

/-- The position lies in the cycle (R13), and a boundary reaction is due only at position 0 before the slot starts (R18). -/
abbrev State.PositionInCycle (s : State) : Prop :=
  s.scheduler.position < s.slots
  ∧ (s.commit.reactionDue = true → s.scheduler.timer = .starting ∧ s.scheduler.position = 0)

/-- The counters stay in their ranges (R57, R127, R142). -/
abbrev State.CountersInRange (s : State) : Prop :=
  (∀ n : PortId, ∀ e ∈ s.queues.get n, e.age ≤ 255)
  ∧ s.commit.drainCount ≤ 4096
  ∧ (s.commit.state = .draining → s.commit.drainCount ≤ s.commit.active.drainLimit)
  ∧ s.sync.slipCount ≤ 255 ∧ s.sync.missCount ≤ 2

/-- The sync unit is FREE exactly when the ACTIVE plan has sync off (R143, R150, Table 9-1); a pending truncation, a pulse mark and a
loss of lock that is due belong to LOCKED (R145, R146, R149); none of the first two stands when a reaction of a boundary is due, since
the boundary cleared them (R148, R149). -/
abbrev State.SyncConsistent (s : State) : Prop :=
  (s.sync.state = .free ↔ s.commit.active.syncEnable = false)
  ∧ (s.sync.truncationPending = true → s.sync.state = .locked)
  ∧ (s.sync.pulseMark = true → s.sync.state = .locked)
  ∧ (s.sync.lostDue = true → s.sync.state = .locked ∧ s.sync.truncationPending = false ∧ s.sync.pulseMark = false)
  ∧ (s.commit.reactionDue = true → s.sync.truncationPending = false ∧ s.sync.pulseMark = false)

/-- The pair that holds a bank stands on the grid (R26, R42, R44): while the first slot runs, this code and the next are those of its port;
from the next slot start on, this code is. No pair stands at position 0 before the slot starts, nor in reset. -/
def State.pairOnGrid (s : State) (b : Bank) : Bool :=
  match (s.banks.get b).pair with
  | none => true
  | some p =>
    rowUsed s.commit.active.geometry.split b && (match s.scheduler.timer, p.slot with
      | .running, .first => isPairAt (s.activeRow b) s.slots p.access.port s.scheduler.position
      | .running, .second => decide (s.currentCode b = .port p.access.port)
      | .starting, .first => decide (0 < s.scheduler.position) && decide (s.currentCode b = .port p.access.port)
      | .starting, .second | .stopped, .first | .stopped, .second => false)

/-- Every pair stands on the grid. -/
abbrev State.PairsOnGrid (s : State) : Prop := ∀ b ∈ allBanks, s.pairOnGrid b = true

/-- An access on bank `b` performs a request in a given state with given work: its reference has been given out, its bank offset is that of
its address, and the queue entry of that reference, unless it has been detached, agrees with it (R32, R70). -/
abbrev State.Performs (s : State) (b : Bank) (a : PortAccess) (state : EntryState) (work : Work) : Prop :=
  a.ref < s.nextRef ∧ a.offset = s.presentedOffset b a.address
  ∧ ∀ e ∈ s.queues.get a.port, e.ref = a.ref →
    e.state = state ∧ e.work = work ∧ e.bank = b ∧ e.address = a.address ∧ e.length = a.length ∧ e.mirror = a.mirror

/-- What a bank performs for a port is a request that it was granted (R32, R44). -/
def State.grantTied (s : State) (b : Bank) : Bool :=
  (match (s.banks.get b).operation with
    | some (.portRead a) => decide (s.Performs b a .inSlot .read)
    | some (.portWrite a beats) => decide (s.Performs b a .inSlot (.write beats))
    | some (.atomicRead _) | some (.atomicWrite _ _) | some (.secondaryWrite _ _) | some (.recoveryRead _ _ _ _)
    | some .refresh | some .catchUpRefresh | none => true)
  && (match (s.banks.get b).pair with
    | some p => decide (s.Performs b p.access .linked (.atomic p.kind p.operand))
    | none => true)

/-- A bank performs the request of port `n` with reference `ref`, as an entry in the given state says: the operation of an IN-SLOT entry,
the pair of a LINKED one, and nothing of the others (Table 4-1). -/
def Sequencer.performs (q : Sequencer) (n : PortId) (ref : Nat) (state : EntryState) : Bool :=
  match state with
  | .waiting | .recovering => true
  | .inSlot =>
    match q.operation with
    | some (.portRead a) | some (.portWrite a _) => decide (a.port = n) && decide (a.ref = ref)
    | some (.atomicRead _) | some (.atomicWrite _ _) | some (.secondaryWrite _ _) | some (.recoveryRead _ _ _ _)
    | some .refresh | some .catchUpRefresh | none => false
  | .linked =>
    match q.pair with
    | some p => decide (p.access.port = n) && decide (p.access.ref = ref)
    | none => false

/-- Granted entries and what the banks perform for ports are tied one to one, detached requests apart (R32, R44, R70). -/
abbrev State.GrantsTied (s : State) : Prop :=
  (∀ b ∈ allBanks, s.grantTied b = true)
  ∧ ∀ n : PortId, ∀ e ∈ s.queues.get n, (s.banks.get e.bank).performs n e.ref e.state = true

/-- A RECOVERY-READ in the backlog of bank `b`: its reference has been given out; the queue entry of that reference is RECOVERING, with the
partner bank and the partner address; and only one being performed can have lost its entry to a reset (R63, R74, R92). -/
def State.recoveryTied (s : State) (b : Bank) (x : BacklogEntry) : Bool :=
  match x.work with
  | .secondaryWrite _ => true
  | .recoveryRead n ref =>
    decide (ref < s.nextRef)
    && decide (∀ e ∈ s.queues.get n, e.ref = ref → e.state = .recovering ∧ e.bank = partnerBank b
      ∧ x.address = partnerAddress s.commit.active.geometry e.address ∧ x.length = e.length)
    && (x.performing || decide (∃ e ∈ s.queues.get n, e.ref = ref))

/-- Every RECOVERING entry is a mirrored READ with exactly one RECOVERY-READ, at the partner of its bank, and every RECOVERY-READ is one of
these, or one being performed for an entry that a reset has removed (R63, R74, R84). -/
abbrev State.RecoveriesTied (s : State) : Prop :=
  (∀ b ∈ allBanks, ∀ x ∈ (s.mirrors.get b).entries, s.recoveryTied b x = true)
  ∧ ∀ n : PortId, ∀ e ∈ s.queues.get n, e.state = .recovering → e.work = .read ∧ e.mirror = true
    ∧ ((s.mirrors.get (partnerBank e.bank)).entries.filter fun x => decide (x.work = .recoveryRead n e.ref)).length = 1

/-- The entry of a backlog that is marked as being performed is the one whose operation is in progress on its bank (R33, R74). -/
def State.performingTied (s : State) (b : Bank) : Bool :=
  let performed := (s.mirrors.get b).entries.filter fun x => x.performing
  match (s.banks.get b).operation with
  | some (.secondaryWrite offset beats) =>
    decide (performed.map (fun x => (x.work, s.presentedOffset b x.address)) = [(.secondaryWrite beats, offset)])
  | some (.recoveryRead offset length n ref) =>
    decide (performed.map (fun x => (x.work, s.presentedOffset b x.address, x.length)) = [(.recoveryRead n ref, offset, length)])
  | some (.portRead _) | some (.portWrite _ _) | some (.atomicRead _) | some (.atomicWrite _ _) | some .refresh
  | some .catchUpRefresh | none => performed.isEmpty

/-- Marks and operations agree on every bank. -/
abbrev State.MarksTied (s : State) : Prop := ∀ b ∈ allBanks, s.performingTied b = true

/-- While PRSTn is asserted the lists of port n are empty (R70, R170, R171). -/
abbrev State.ResetPortsEmpty (s : State) : Prop :=
  ∀ n : PortId, (s.ports.get n).resetLine = true → s.queues.get n = [] ∧ (s.ports.get n).completions = []

/-- The memory keeps its canonical form. -/
abbrev State.MemoryCanonical (s : State) : Prop := s.memory.wf = true

/-- Nothing is owed from the last boundary: no loss of lock and no expiry (log entry 4). -/
abbrev State.Settled (s : State) : Prop :=
  s.sync.lostDue = false ∧ ∀ n : PortId, ∀ e ∈ s.queues.get n, e.expiryDue = false

/-- No bank has a result to hand back. -/
abbrev State.BanksIdle (s : State) : Prop :=
  ∀ b ∈ allBanks, (s.banks.get b).operation = none ∧ (s.banks.get b).pairIn .second = none

/-- The bytes a management command sends: the code byte and the argument bytes, and the check byte (Table 12-5, R189). -/
def frameOf : Instr → Option (List Byte × Byte)
  | .readStatus check => some ([0x01], check)
  | .readFault check => some ([0x02], check)
  | .readCapture check => some ([0x03], check)
  | .captureNow check => some ([0x04], check)
  | .writeGrid row position code check => some ([0x10, row, position, code], check)
  | .writeRegion index image check => some (0x11 :: index :: image.toList, check)
  | .writeGeometry image check => some (0x12 :: image.toList, check)
  | .writePortLimit port limit check => some ([0x13, port, limit], check)
  | .restage check => some ([0x14], check)
  | .readPlan plan item check => some ([0x18, plan, item], check)
  | .commit check => some ([0x20], check)
  | .cancelCommit check => some ([0x21], check)
  | .setAlertMask mask check => some ([0x30, mask], check)
  | .setStrobe setting check => some ([0x31, setting], check)
  | .trafficReset check => some ([0x3C], check)
  | .powerOnReset | .resetNRelease | .portReset _ | .portResetRelease _ | .acceptance _ _ | .responseTransfer _
  | .slotStart | .slotEnd _ | .readComplete _ | .writeComplete _ | .atomicReadComplete _ | .atomicPairEnd _
  | .secondaryWriteComplete _ | .recoveryReadComplete _ | .timeout _ | .swapped _ | .abandoned | .truncation _
  | .forcedBoundary | .syncLost | .syncPulse | .strobeEdge | .selectRelease | .badCommand _ | .frameOpen
  | .replySpent | .memoryDeviceChange _ _ => none

/-- The commands that BUSY refuses while a commit is pending: the staged-plan edits, RESTAGE and COMMIT (R175). -/
def busyDuringCommit : Instr → Bool
  | .writeGrid _ _ _ _ | .writeRegion _ _ _ | .writeGeometry _ _ | .writePortLimit _ _ _ | .restage _ | .commit _ => true
  | .powerOnReset | .resetNRelease | .portReset _ | .portResetRelease _ | .acceptance _ _ | .responseTransfer _
  | .slotStart | .slotEnd _ | .readComplete _ | .writeComplete _ | .atomicReadComplete _ | .atomicPairEnd _
  | .secondaryWriteComplete _ | .recoveryReadComplete _ | .timeout _ | .swapped _ | .abandoned | .truncation _
  | .forcedBoundary | .syncLost | .syncPulse | .strobeEdge | .selectRelease | .badCommand _ | .readStatus _
  | .readFault _ | .readCapture _ | .captureNow _ | .readPlan _ _ _ | .cancelCommit _ | .setAlertMask _ _
  | .setStrobe _ _ | .trafficReset _ | .frameOpen | .replySpent | .memoryDeviceChange _ _ => false

/-- A frame stands complete at the receiver with a right check byte (R173, R174). -/
abbrev State.Receives (s : State) (frame : List Byte) (check : Byte) : Prop :=
  s.link.receiver = .receiving ∧ check = checkByte frame

/-- What a reset leaves while RESET_N is asserted: no traffic, no record, no pending commit (R69, R94, R106, R127, R142, R172, R187). -/
abbrev State.QuietInReset (s : State) : Prop :=
  s.scheduler.timer = .stopped →
    (∀ n : PortId, s.queues.get n = [] ∧ (s.ports.get n).completions = [])
    ∧ (∀ b ∈ allBanks, s.mirrors.get b = resetBacklog ∧ s.banks.get b = resetSequencer)
    ∧ s.commit = resetCommit ∧ s.sync = resetSync
    ∧ s.link.receiver = .idle ∧ s.link.faults = []

/-- The state of the block in which no run goes wrong. -/
structure State.Inv (s : State) : Prop where
  tied         : s.Tied
  refs         : s.RefsFresh
  capacity     : s.WithinCapacity
  reservations : s.ReservationsOwed
  pairs        : s.PairsHold
  idle         : s.IdleBetweenSlots
  plans        : s.PlansValid
  position     : s.PositionInCycle
  counters     : s.CountersInRange
  sync         : s.SyncConsistent
  memory       : s.MemoryCanonical
  quiet        : s.QuietInReset
  grid         : s.PairsOnGrid
  grants       : s.GrantsTied
  recoveries   : s.RecoveriesTied
  marks        : s.MarksTied
  resetPorts   : s.ResetPortsEmpty

/-- A run is safe while it answers next states that meet the invariant. -/
abbrev Safe (o : Host.Outcome State Fault Refusal) : Prop :=
  match o with
  | .next s => s.Inv
  | .fault _ | .refused _ => False

end Sys2Proof.Machine
end

