-- ==== Sys2Proof/Certificates/Slice0/Obligations.lean ====
section
/-! DEFINITION. The statements for the provers: def Obligations.<Name> : Prop, listed in OBLIGATIONS.json. A next state that is written as
a record update of the state before says with it that every field not named is unchanged. -/

section

open Sys2Proof Sys2Proof.Machine

/-! ### Steps -/

/-- A step takes the front command and runs it on the state with the queue's rest (the block's form of a step). -/
def Obligations.StepRunsTheFrontCommand : Prop :=
  ∀ (c : Instr) (rest : List Instr) (s : State), step { s with pending := c :: rest } = exec c { s with pending := rest }

/-- On an empty queue the block idles (the model's choice, log entry 2). -/
def Obligations.EmptyQueueIdles : Prop :=
  ∀ s : State, s.pending = [] → step s = .next s

/-- Every well-formed command answers a next state and leaves the queue of waiting commands alone; a change of a byte that no memory has is
the one fault, and it is no other command's (log entry 15). -/
def Obligations.WellFormedCommandsAnswerAState : Prop :=
  (∀ (c : Instr) (s : State), c.wf = true → ∃ t : State, exec c s = .next t ∧ t.pending = s.pending)
  ∧ (∀ (c : Instr) (s : State) (f : Fault), exec c s = .fault f →
    ∃ (a : Address) (v : Byte), c = .memoryDeviceChange a v ∧ 0x8000000 ≤ a.toNat ∧ f = .memoryAbsent a)

/-! ### Resets -/

/-- POWER_ON_RESET leaves every block at its power-on values with the slot timer stopped; memory keeps every byte, and the input lines and
the queue of waiting commands are as they were. ALERT is then deasserted, and the management data output is not driven.
RESET_N_RELEASE lets the slot timer run, the first slot about to start; where RESET_N is not asserted it does nothing. (That a completion
reference restarts at 0 is log entry 12.) -/
def Obligations.PowerOnResetAndItsRelease : Prop :=
  (∀ s : State, exec .powerOnReset s = .next
    { scheduler := ⟨.stopped, 0, 0, ⟨0, 0, 0, 0⟩, false⟩
      queues := ⟨[], [], [], []⟩
      ports := ⟨⟨s.ports.p0.resetLine, []⟩, ⟨s.ports.p1.resetLine, []⟩, ⟨s.ports.p2.resetLine, []⟩, ⟨s.ports.p3.resetLine, []⟩⟩
      mirrors := ⟨⟨[], 0, 0⟩, ⟨[], 0, 0⟩, ⟨[], 0, 0⟩, ⟨[], 0, 0⟩⟩
      banks := ⟨⟨none, false, none⟩, ⟨none, false, none⟩, ⟨none, false, none⟩, ⟨none, false, none⟩⟩
      commit := ⟨defaultPlan, defaultPlan, .none, 0, ⟨none, false⟩, false⟩
      sync := ⟨.free, 0, 0, false, false, [], false, false⟩
      link := ⟨s.link.selectActive, .idle, [], false, ⟨true, true, true⟩, false⟩
      memory := s.memory
      nextRef := 0
      pending := s.pending })
  ∧ (∀ s t : State, exec .powerOnReset s = .next t → t.alert = false ∧ ∀ k : Nat, t.dataOutput k = none)
  ∧ (∀ s : State,
    (s.scheduler.timer = .stopped →
      exec .resetNRelease s = .next { s with scheduler := { s.scheduler with timer := .starting } })
    ∧ (s.scheduler.timer ≠ .stopped → exec .resetNRelease s = .next s))

/-- The default plan, field by field, passes validation; it is both plans after power-on, and the other resets keep both plans. -/
def Obligations.PlansAtResets : Prop :=
  (∀ s t : State, exec .powerOnReset s = .next t → t.commit.active = defaultPlan ∧ t.commit.staged = defaultPlan)
  ∧ (∀ (s t : State) (n : PortId), exec (.portReset n) s = .next t →
      t.commit.active = s.commit.active ∧ t.commit.staged = s.commit.staged)
  ∧ (∀ (s t : State) (check : Byte), s.commit.reactionDue = false → exec (.trafficReset check) s = .next t →
      t.commit.active = s.commit.active ∧ t.commit.staged = s.commit.staged)
  ∧ (∀ s t : State, exec .forcedBoundary s = .next t →
      t.commit.active = s.commit.active ∧ t.commit.staged = s.commit.staged)
  ∧ validate defaultPlan = none
  ∧ (∀ p : Fin 8, ∀ b : Bank, (defaultPlan.grid.get b).codeAt p =
      if b = .lc1 ∨ b = .uc1 then .idle else if p = 7 then .refresh else .openSlot)
  ∧ defaultPlan.geometry = ⟨.eight, false, .mib64, .dynamic⟩ ∧ defaultPlan.syncEnable = false
  ∧ defaultPlan.defaultPolicy = .allow ∧ defaultPlan.drainLimit = 1024
  ∧ (∀ n : PortId, defaultPlan.waitLimits.get n = 0)
  ∧ (∀ i : Fin 16, defaultPlan.region i = ⟨false, 0, 0, 0, 0, false⟩)

/-- The state after reset meets the invariant. -/
def Obligations.ResetMeetsTheInvariant : Prop :=
  State.reset.Inv

/-- PORT_RESET: the port's line is asserted, its list and queue are emptied, and every backlog loses the RECOVERY-READs of the port that are
not being performed, their places held as freed until the next slot start; nothing else changes. PORT_RESET_RELEASE: the line alone
changes, and the gate opens unless the commit state is DRAINING (or RESET_N is asserted). -/
def Obligations.PortResetAndItsRelease : Prop :=
  (∀ (n : PortId) (s : State),
    let removed := fun e : BacklogEntry => match e.work with
      | .secondaryWrite _ => false
      | .recoveryRead m _ => !e.performing && decide (m = n)
    exec (.portReset n) s = .next
    { s with
      queues := s.queues.set n []
      ports := s.ports.set n ⟨true, []⟩
      mirrors := s.mirrors.map fun l => { l with
        entries := l.entries.filter fun e => !removed e
        freed := l.freed + (l.entries.filter removed).length } })
  ∧ (∀ (n : PortId) (s : State), ∃ t : State,
    exec (.portResetRelease n) s = .next t
    ∧ t = { s with ports := s.ports.set n { s.ports.get n with resetLine := false } }
    ∧ (s.scheduler.timer ≠ .stopped → (s.ports.get n).completions = [] →
        (t.gateOpen n = true ↔ s.commit.state ≠ .draining)))

/-! ### Acceptance and responses -/

/-- The acceptance gate: its three conditions (and RESET_N); behind a closed gate a presented request changes nothing; through an open
gate it takes one completion entry. -/
def Obligations.AcceptanceGate : Prop :=
  ∀ (s : State) (n : PortId) (m : RequestMessage),
    (s.gateOpen n = true ↔ s.scheduler.timer ≠ .stopped ∧ (s.ports.get n).resetLine = false ∧ s.commit.state ≠ .draining
        ∧ (s.ports.get n).completions.length < 8)
    ∧ (s.gateOpen n = false → exec (.acceptance n m) s = .next s)
    ∧ (s.gateOpen n = true → ∃ t : State, exec (.acceptance n m) s = .next t
        ∧ (t.ports.get n).completions.length = (s.ports.get n).completions.length + 1)

/-- A refused request: one completion entry, DONE at once without data, and one fault record, but no queue entry. A request that passes the
four checks: its two entries, each at the young end of its list. Nothing else changes. (The numbering of references is log entry 12.) -/
def Obligations.RefusedAndAcceptedRequests : Prop :=
  (∀ (s : State) (n : PortId) (m : RequestMessage) (status : ResponseStatus) (kind : FaultKind) (bank : Option Bank)
    (region : Option (Fin 16)),
    s.gateOpen n = true → acceptanceDecision s.commit.active n m = .refuse status kind bank region →
    exec (.acceptance n m) s = .next
      { s with
        ports := s.ports.set n { s.ports.get n with
          completions := (s.ports.get n).completions ++ [⟨s.nextRef, m.tag, m.kind, .done ⟨status, [], false⟩⟩] }
        link := s.link.report
          ⟨kind, some n, some m.tag, some m.address, bank, region, s.scheduler.cycleCount, s.scheduler.position⟩
        nextRef := s.nextRef + 1 })
  ∧ (∀ (s : State) (n : PortId) (m : RequestMessage) (bank : Bank) (mirror : Bool),
    s.gateOpen n = true → acceptanceDecision s.commit.active n m = .accept bank mirror →
    exec (.acceptance n m) s = .next
      { s with
        queues := s.queues.set n (s.queues.get n ++
          [{ ref := s.nextRef
             work := match m.kind with
               | .read => .read
               | .write => .write ((List.zipWith WriteBeat.mk m.enables.toList m.data.toList).take m.length.toNat)
               | .swap => .atomic .swap m.data[0]
               | .fetchAdd => .atomic .fetchAdd m.data[0]
             address := m.address, length := m.length.toNat, bank := bank, mirror := mirror, age := 0, state := .waiting
             atomicResult := none, expiring := false }])
        ports := s.ports.set n { s.ports.get n with
          completions := (s.ports.get n).completions ++ [⟨s.nextRef, m.tag, m.kind, .pending⟩] }
        nextRef := s.nextRef + 1 })

/-- The bank an address names: the table of R7 by the window of size/2 or size/4, none out of range; the first address of the bank and the
bank offset give the address back; the partner address lies in the partner bank at the same bank offset, and the partner of the partner
is the address. -/
def Obligations.BanksAndPartners : Prop :=
  ∀ (g : Geometry) (a : Address),
    (g.size.bytes ≤ a.toNat → bankOf g a = none)
    ∧ (a.toNat < g.size.bytes → ∃ b : Bank, bankOf g a = some b
        ∧ bankBase g b ≤ a.toNat ∧ a.toNat < bankBase g b + windowBytes g ∧ rowUsed g.split b = true
        ∧ bankBase g b + bankOffset g b a = a.toNat ∧ bankOffset g b a < windowBytes g
        ∧ bankOf g (partnerAddress g a) = some (partnerBank b)
        ∧ bankOffset g (partnerBank b) (partnerAddress g a) = bankOffset g b a
        ∧ partnerAddress g (partnerAddress g a) = a)

/-- The MALFORMED check: exactly the four cases, all with one status, and the bank of the first byte in the record when it is in range. The
RANGE check: a request that passed MALFORMED is refused RANGE exactly when its first byte is at or above the memory size, without a bank in
its record; one that passes lies wholly in range and in one bank, which is its bank. -/
def Obligations.MalformedAndRangeRequests : Prop :=
  (∀ (p : Plan) (n : PortId) (m : RequestMessage),
    let first := m.address.toNat
    let last := if m.length.toNat = 0 then first else first + 8 * m.length.toNat - 1
    let window := if p.geometry.split then p.geometry.size.bytes / 4 else p.geometry.size.bytes / 2
    let malformed := m.length.toNat = 0 ∨ 8 < m.length.toNat ∨ first % 8 ≠ 0
      ∨ ((m.kind = .swap ∨ m.kind = .fetchAdd) ∧ m.length.toNat ≠ 1) ∨ first / window ≠ last / window
    (malformed → acceptanceDecision p n m = .refuse .malformed .malformed (bankOf p.geometry m.address) none)
    ∧ (¬ malformed → ∀ status kind bank region, acceptanceDecision p n m = .refuse status kind bank region →
        status ≠ .malformed ∧ kind ≠ .malformed))
  ∧ (∀ (p : Plan) (n : PortId) (m : RequestMessage), isMalformed p.geometry m = false →
    (p.geometry.size.bytes ≤ m.address.toNat → acceptanceDecision p n m = .refuse .range .range none none)
    ∧ (m.address.toNat < p.geometry.size.bytes →
        (∀ kind bank region, acceptanceDecision p n m ≠ .refuse .range kind bank region)
        ∧ lastByte m.address m.length.toNat < p.geometry.size.bytes
        ∧ ∃ b : Bank, bankOf p.geometry m.address = some b
          ∧ bankOf p.geometry (BitVec.ofNat 32 (lastByte m.address m.length.toNat)) = some b
          ∧ ∀ bank mirror, acceptanceDecision p n m = .accept bank mirror → bank = b))

/-- The first match of a byte: the enabled entry of lowest index whose pages hold the byte's page; none when no enabled entry does. -/
def Obligations.FirstMatchIsTheLowestEntry : Prop :=
  ∀ (p : Plan) (byte : Nat),
    let holds := fun i : Fin 16 => (p.region i).enabled = true ∧ (p.region i).basePage.toNat ≤ byte / 4096
      ∧ byte / 4096 ≤ (p.region i).limitPage.toNat
    (∀ i : Fin 16, firstMatch p byte = some i ↔ holds i ∧ ∀ j : Fin 16, j < i → ¬ holds j)
    ∧ (firstMatch p byte = none ↔ ∀ i : Fin 16, ¬ holds i)

/-- The region check, for a request that passed MALFORMED and RANGE. A split span is DENIED whatever its kind and port, with the first match of
its first byte, if any. A span governed by one entry is DENIED with that entry's index when its port is missing from a set that its kind
needs, and otherwise takes the entry's mirror attribute. A span neither of whose ends has a match is decided by the default policy, and
never with the mirror attribute. What is allowed is still subject to the NO-LINK check. -/
def Obligations.RegionCheck : Prop :=
  (∀ (p : Plan) (n : PortId) (m : RequestMessage) (b : Bank),
    isMalformed p.geometry m = false → bankOf p.geometry m.address = some b →
    firstMatch p m.address.toNat ≠ firstMatch p (lastByte m.address m.length.toNat) →
    acceptanceDecision p n m = .refuse .denied .denied (some b) (firstMatch p m.address.toNat))
  ∧ (∀ (p : Plan) (n : PortId) (m : RequestMessage) (b : Bank) (i : Fin 16),
    isMalformed p.geometry m = false → bankOf p.geometry m.address = some b →
    firstMatch p m.address.toNat = some i → firstMatch p (lastByte m.address m.length.toNat) = some i →
    let reads := (p.region i).readPorts.getLsbD n = true
    let writes := (p.region i).writePorts.getLsbD n = true
    let allowed := match m.kind with
      | .read => reads
      | .write => writes
      | .swap | .fetchAdd => reads ∧ writes
    (¬ allowed → acceptanceDecision p n m = .refuse .denied .denied (some b) (some i))
    ∧ (allowed → acceptanceDecision p n m =
        if isAtomicKind m.kind = true ∧ hasPair p n b = false then .refuse .noLink .noLink (some b) none
        else .accept b (p.region i).mirror))
  ∧ (∀ (p : Plan) (n : PortId) (m : RequestMessage) (b : Bank),
    isMalformed p.geometry m = false → bankOf p.geometry m.address = some b →
    firstMatch p m.address.toNat = none → firstMatch p (lastByte m.address m.length.toNat) = none →
    (p.defaultPolicy = .deny → acceptanceDecision p n m = .refuse .denied .denied (some b) none)
    ∧ (p.defaultPolicy = .allow → acceptanceDecision p n m =
        if isAtomicKind m.kind = true ∧ hasPair p n b = false then .refuse .noLink .noLink (some b) none
        else .accept b false))

/-- The NO-LINK check, the last: an atomic that passed the region check needs two adjacent used positions of its bank's used row that both
hold its port's code; a READ or a WRITE needs none. -/
def Obligations.NoLinkCheck : Prop :=
  ∀ (p : Plan) (n : PortId) (m : RequestMessage) (b : Bank) (mirror : Bool),
    isMalformed p.geometry m = false → bankOf p.geometry m.address = some b →
    regionCheck p n m.kind m.address m.length.toNat = .allowed mirror →
    let pair := ∃ k : Nat, k + 1 < p.geometry.cycleLength.slots ∧ (p.grid.get b).codeAt k = .port n
      ∧ (p.grid.get b).codeAt (k + 1) = .port n
    (m.kind = .read ∨ m.kind = .write → acceptanceDecision p n m = .accept b mirror)
    ∧ (m.kind = .swap ∨ m.kind = .fetchAdd → pair → acceptanceDecision p n m = .accept b mirror)
    ∧ (m.kind = .swap ∨ m.kind = .fetchAdd → ¬ pair →
        acceptanceDecision p n m = .refuse .noLink .noLink (some b) none)

/-- RESPONSE_TRANSFER: what is offered is the response of the oldest entry while it is DONE and no reset is asserted; its transfer removes
that entry and changes nothing else; where nothing is offered nothing passes. The message carries the tag, the status number, the recovered
bit, and the beats of the result in the beat positions from 0, every other of the eight positions being 0. -/
def Obligations.ResponseTransferTakesTheOldest : Prop :=
  (∀ (s : State) (n : PortId),
    (∀ (c : CompletionEntry) (rest : List CompletionEntry) (r : CompletionResult),
      s.scheduler.timer ≠ .stopped → (s.ports.get n).resetLine = false →
      (s.ports.get n).completions = c :: rest → c.state = .done r →
      s.offered n = some (responseMessage c.tag r)
      ∧ exec (.responseTransfer n) s = .next { s with ports := s.ports.set n { s.ports.get n with completions := rest } })
    ∧ (s.scheduler.timer = .stopped ∨ (s.ports.get n).resetLine = true ∨ (s.ports.get n).completions = []
        ∨ (∃ c rest, (s.ports.get n).completions = c :: rest ∧ c.state = .pending) →
      s.offered n = none ∧ exec (.responseTransfer n) s = .next s))
  ∧ ∀ (tag : Tag) (r : CompletionResult),
    let m := responseMessage tag r
    m.tag = tag ∧ m.recovered = r.recovered
    ∧ m.status.toNat = (match r.status with
      | .ok => 0
      | .denied => 1
      | .range => 2
      | .malformed => 3
      | .noLink => 4
      | .timeout => 5
      | .dataFault => 6)
    ∧ m.data.length = 8 ∧ ∀ k < 8, m.data[k]? = some (r.data.getD k 0)

/-- Responses leave in acceptance order: a command changes a port's completion list, seen by its references, only by one entry more at the
young end, one entry less at the old end, or by emptying it. A DONE entry never changes while it stays in its list. -/
def Obligations.CompletionListsKeepTheirOrder : Prop :=
  (∀ (c : Instr) (s t : State) (n : PortId), exec c s = .next t →
    let before := (s.ports.get n).completions.map (·.ref)
    let after := (t.ports.get n).completions.map (·.ref)
    after = before ∨ after = before.tail ∨ after = before ++ [s.nextRef] ∨ after = [])
  ∧ (∀ (c : Instr) (s t : State) (n : PortId), s.RefsFresh → exec c s = .next t →
    ∀ e ∈ (s.ports.get n).completions, e.state ≠ .pending →
      ∀ e' ∈ (t.ports.get n).completions, e'.ref = e.ref → e' = e)

/-! ### Slot start -/

/-- SLOT_START, between two slots with no loss of lock and no commit reaction owed: the slot runs, every used bank having decided, and the
places freed in the backlogs count as free capacity from then on, before the first decision; the
position, the counts, the plans, the lists of completion entries, the sync unit, the link and memory are unchanged, and every queue keeps
its entries in their order with every field but their state. Where no slot is about to start, nothing happens.
A loss of lock, a swap or an abandonment that is due is taken first (log entry 4), and in commit state NONE the boundary's reaction is
nothing. -/
def Obligations.SlotStartRunsTheSlot : Prop :=
  (∀ s : State, s.scheduler.timer = .starting → s.sync.lostDue = false → s.commit.reactionDue = false →
    let opened : State := { s with mirrors := s.mirrors.map fun l => { l with freed := 0 } }
    ∃ t : State, exec .slotStart s = .next t
    ∧ t = (((((opened.decideBank .lc0).decideBank .lc1).decideBank .uc0).decideBank .uc1)).beginSlot
    ∧ t = { s with
        scheduler := { s.scheduler with timer := .running, pointers := t.scheduler.pointers }
        queues := t.queues, mirrors := t.mirrors, banks := t.banks }
    ∧ (∀ b : Bank, (t.mirrors.get b).freed = 0)
    ∧ ∀ n : PortId, (t.queues.get n).map (fun e => { e with state := .waiting, expiring := false })
        = (s.queues.get n).map (fun e => { e with state := .waiting, expiring := false }))
  ∧ (∀ s : State, s.scheduler.timer ≠ .starting → exec .slotStart s = .next s)
  ∧ (∀ s u : State, s.scheduler.timer = .starting → exec .syncLost s = .next u → exec .slotStart s = exec .slotStart u)
  ∧ (∀ s u : State, s.scheduler.timer = .starting → s.swapDue = true → exec (.swapped []) s = .next u →
      exec .slotStart s = exec .slotStart u)
  ∧ (∀ s u : State, s.scheduler.timer = .starting → s.abandonDue = true → exec .abandoned s = .next u →
      exec .slotStart s = exec .slotStart u)
  ∧ (∀ s : State, s.commit.state = .none →
      exec .slotStart s = exec .slotStart { s with commit := { s.commit with reactionDue := false } }
        ∨ s.scheduler.timer ≠ .starting)

/-- The candidate of a port for a bank is its oldest WAITING entry for that bank, and there is none when no WAITING entry is for it.
Eligibility: an atomic needs its port's code at the current position and at the next, both used; a mirrored WRITE or atomic needs the
partner backlog's entries and reservations, with the places freed since the last slot start, to number fewer than 8; a READ, and a WRITE
that is not mirrored, need nothing. -/
def Obligations.CandidatesAndEligibility : Prop :=
  (∀ (s : State) (n : PortId) (b : Bank),
    (∀ e : QueueEntry, s.candidate n b = some e ↔ e.state = .waiting ∧ e.bank = b
      ∧ ∃ older younger, s.queues.get n = older ++ e :: younger ∧ ∀ x ∈ older, ¬ (x.state = .waiting ∧ x.bank = b))
    ∧ (s.candidate n b = none ↔ ∀ x ∈ s.queues.get n, ¬ (x.state = .waiting ∧ x.bank = b)))
  ∧ (∀ (s : State) (b : Bank) (n : PortId) (e : QueueEntry),
    let partner := s.mirrors.get (partnerBank b)
    let room := partner.entries.length + partner.reservations + partner.freed < 8
    let pair := s.scheduler.position + 1 < s.slots ∧ (s.activeRow b).codeAt s.scheduler.position = .port n
      ∧ (s.activeRow b).codeAt (s.scheduler.position + 1) = .port n
    s.eligible b n e = true ↔ match e.work with
      | .read => True
      | .write _ => e.mirror = true → room
      | .atomic _ _ => pair ∧ (e.mirror = true → room))

/-- What a used bank does, by the cases of R20 and the codes of R21 to R25. -/
def Obligations.BankDecision : Prop :=
  ∀ (s : State) (b : Bank),
    (rowUsed s.commit.active.geometry.split b = false → s.decideBank b = s)
    ∧ (rowUsed s.commit.active.geometry.split b = true →
      (∀ p : AtomicPair, (s.banks.get b).pair = some p →
        let access := { p.access with offset := bankOffset s.commit.active.geometry b p.access.address }
        s.decideBank b = { s with
          banks := s.banks.set b { s.banks.get b with
            operation := match p.result with
              | some (.good _ newValue) => some (.atomicWrite access newValue)
              | some (.failed _) | none => none
            pair := some { p with access := access, slot := .second } } })
      ∧ ((s.banks.get b).pair = none →
        (s.scheduler.position = 0 → (s.banks.get b).debt = true → s.decideBank b = { s with
          banks := s.banks.set b { s.banks.get b with operation := some .catchUpRefresh, debt := false } })
        ∧ (¬ (s.scheduler.position = 0 ∧ (s.banks.get b).debt = true) →
          match (s.activeRow b).codeAt s.scheduler.position with
          | .port n => s.decideBank b = match s.candidate n b with
            | some e => if s.eligible b n e then s.grant b n e else s.serveBacklog b
            | none => s.serveBacklog b
          | .openSlot => s.decideBank b = match s.openWinner b with
            | some n => match s.candidate n b with
              | some e => (s.grant b n e).movePointer b n
              | none => s.serveBacklog b
            | none => s.serveBacklog b
          | .mirror => s.decideBank b = s.serveBacklog b
          | .refresh => s.decideBank b = if s.commit.active.geometry.kind = .dynamic then
              { s with banks := s.banks.set b { s.banks.get b with operation := some .refresh } } else s
          | .idle => s.decideBank b = s)))

/-- OPEN arbitration: the winner is the first port, from the pointer onward and wrapping from 3 to 0, whose candidate exists and is
eligible; there is no winner when no port has one; and after a win the pointer is the winner's number plus one, modulo 4. -/
def Obligations.OpenArbitration : Prop :=
  ∀ (s : State) (b : Bank),
    let wins := fun n : PortId => ∃ e, s.candidate n b = some e ∧ s.eligible b n e = true
    (∀ n : PortId, s.openWinner b = some n ↔ wins n ∧ ∀ k : PortId,
        k - s.scheduler.pointers.get b < n - s.scheduler.pointers.get b → ¬ wins k)
    ∧ (s.openWinner b = none ↔ ∀ n : PortId, ¬ wins n)
    ∧ ∀ n : PortId, s.movePointer b n = { s with
        scheduler := { s.scheduler with pointers := s.scheduler.pointers.set b (n + 1) } }

/-- A grant: the entry goes to IN-SLOT or LINKED in its place, the bank's sequencer gets the operation with the entry's fields and the bank
offset of its address under the ACTIVE geometry, and a mirrored WRITE or atomic makes one reservation at the partner bank. Service of the
backlog head: the oldest entry that is not being performed goes to the sequencer with the bank offset of its address and is marked, and
stays in the list; without one the bank does nothing. Nothing else changes. -/
def Obligations.GrantAndBacklogService : Prop :=
  (∀ (s : State) (b : Bank) (n : PortId) (e : QueueEntry),
    let access : PortAccess := ⟨n, e.ref, e.address, bankOffset s.commit.active.geometry b e.address, e.length, e.mirror⟩
    s.grant b n e = { s with
      queues := s.queues.set n ((s.queues.get n).map fun x => if x.ref = e.ref then
        (match x.work with
          | .atomic _ _ => { x with state := .linked, expiring := false }
          | .read | .write _ => { x with state := .inSlot, expiring := false }) else x)
      banks := s.banks.set b { s.banks.get b with
        operation := some (match e.work with
          | .read => .portRead access
          | .write beats => .portWrite access beats
          | .atomic _ _ => .atomicRead access)
        pair := match e.work with
          | .atomic kind operand => some ⟨access, kind, operand, .first, none⟩
          | .read | .write _ => none }
      mirrors := if e.mirror = true ∧ e.work ≠ .read then
          s.mirrors.set (partnerBank b) { s.mirrors.get (partnerBank b) with
            reservations := (s.mirrors.get (partnerBank b)).reservations + 1 }
        else s.mirrors })
  ∧ (∀ (s : State) (b : Bank),
    (∀ (front : List BacklogEntry) (e : BacklogEntry) (rest : List BacklogEntry),
      (s.mirrors.get b).entries = front ++ e :: rest → (∀ x ∈ front, x.performing = true) → e.performing = false →
      let offset := bankOffset s.commit.active.geometry b e.address
      s.serveBacklog b = { s with
        mirrors := s.mirrors.set b { s.mirrors.get b with entries := front ++ { e with performing := true } :: rest }
        banks := s.banks.set b { s.banks.get b with
          operation := some (match e.work with
            | .secondaryWrite beats => .secondaryWrite offset beats
            | .recoveryRead n ref => .recoveryRead offset e.length n ref) } })
    ∧ ((∀ x ∈ (s.mirrors.get b).entries, x.performing = true) → s.serveBacklog b = s))

/-- The decisions of two banks at one slot start give the same state in either order. -/
def Obligations.BankDecisionsCommute : Prop :=
  ∀ (s : State) (b c : Bank), s.Tied → s.RefsFresh → b ≠ c →
    (s.decideBank b).decideBank c = (s.decideBank c).decideBank b

/-- Which bank does what: after a slot start a bank performs an access of port n only under code Pn or OPEN (an atomic's read only under Pn
with Pn at the next position, its write only under Pn), a backlog entry only under Pn, OPEN or MIRROR, a refresh only under REFRESH and
DYNAMIC, and a catch-up refresh only at position 0; a bank whose row is not used performs nothing. -/
def Obligations.BanksObeyTheGrid : Prop :=
  ∀ s t : State, s.PairsHold → s.IdleBetweenSlots → s.PositionInCycle → s.PairsOnGrid → s.scheduler.timer = .starting →
    exec .slotStart s = .next t →
    ∀ b : Bank,
      let code := (t.activeRow b).codeAt t.scheduler.position
      match (t.banks.get b).operation with
      | none => True
      | some (.portRead a) | some (.portWrite a _) =>
        rowUsed t.commit.active.geometry.split b = true ∧ (code = .port a.port ∨ code = .openSlot)
      | some (.atomicRead a) => rowUsed t.commit.active.geometry.split b = true ∧ code = .port a.port
        ∧ (t.activeRow b).codeAt (t.scheduler.position + 1) = .port a.port ∧ t.scheduler.position + 1 < t.slots
      | some (.atomicWrite a _) => rowUsed t.commit.active.geometry.split b = true ∧ code = .port a.port ∧ ∃ p,
        (t.banks.get b).pair = some p ∧ p.slot = .second ∧ p.access = a
      | some (.secondaryWrite _ _) | some (.recoveryRead _ _ _ _) => rowUsed t.commit.active.geometry.split b = true
        ∧ (code = .openSlot ∨ code = .mirror ∨ ∃ n, code = .port n)
      | some .refresh => rowUsed t.commit.active.geometry.split b = true ∧ code = .refresh
        ∧ t.commit.active.geometry.kind = .dynamic
      | some .catchUpRefresh => rowUsed t.commit.active.geometry.split b = true ∧ t.scheduler.position = 0
        ∧ (t.banks.get b).debt = false

/-! ### Results at a slot end -/

/-- READ_COMPLETE with good parity: the entry leaves its queue and its completion entry is DONE OK with the beats that memory holds at the
bank offsets, lane k of beat j being the byte at offset 8j + k. With a parity fault in any requested byte: without the mirror attribute
DATA-FAULT with its record; with it, a RECOVERY-READ at the partner bank while it has free capacity (a place freed since the last slot
start does not count yet) and otherwise RECOVERY-DROPPED; of a detached READ the result is discarded. Data and parity are those of memory
as it stands at the slot end (the model's, log entry 9), and a bank offset names the byte at the bank's first address plus the offset (log
entry 6). -/
def Obligations.ReadCompletes : Prop :=
  (∀ (s : State) (b : Bank) (a : PortAccess),
    s.scheduler.timer = .running → s.Settled → (s.banks.get b).pair = none →
    (s.banks.get b).operation = some (.portRead a) →
    (∀ k < 8 * a.length, s.memory.faultyAt (s.place b a.offset + k) = false) →
    (s.findEntry a.port a.ref = none → exec (.readComplete b) s = .next
      { s with banks := s.banks.set b { s.banks.get b with operation := none } })
    ∧ ∀ e, s.findEntry a.port a.ref = some e → exec (.readComplete b) s = .next { s with
      banks := s.banks.set b { s.banks.get b with operation := none }
      queues := s.queues.set a.port ((s.queues.get a.port).filter fun x => decide (x.ref ≠ a.ref))
      ports := s.ports.set a.port { s.ports.get a.port with
        completions := (s.ports.get a.port).completions.map fun c => if c.ref = a.ref ∧ c.state = .pending then
          { c with state := .done ⟨.ok, s.memory.readBeats (s.place b a.offset) a.length, false⟩ } else c } })
  ∧ (∀ (s : State) (b : Bank) (a : PortAccess) (k : Nat),
    s.scheduler.timer = .running → s.Settled → (s.banks.get b).pair = none →
    (s.banks.get b).operation = some (.portRead a) →
    k < 8 * a.length → s.memory.faultyAt (s.place b a.offset + k) = true →
    let idle : State := { s with banks := s.banks.set b { s.banks.get b with operation := none } }
    let failed := fun (kind : FaultKind) (e : QueueEntry) => (idle.report
      ⟨kind, some a.port, s.tagOf a.port e.ref, some e.address, some e.bank, none, s.scheduler.cycleCount,
        s.scheduler.position⟩).finishEntry a.port e.ref ⟨.dataFault, [], false⟩
    let partner := s.mirrors.get (partnerBank b)
    (s.findEntry a.port a.ref = none → exec (.readComplete b) s = .next idle)
    ∧ ∀ e : QueueEntry, s.findEntry a.port a.ref = some e →
      (e.mirror = false → exec (.readComplete b) s = .next (failed .dataFault e))
      ∧ (e.mirror = true → 8 ≤ partner.entries.length + partner.reservations + partner.freed →
          exec (.readComplete b) s = .next (failed .recoveryDropped e))
      ∧ (e.mirror = true → partner.entries.length + partner.reservations + partner.freed < 8 →
          exec (.readComplete b) s = .next { idle with
            mirrors := s.mirrors.set (partnerBank b) { partner with
              entries := partner.entries
                ++ [⟨.recoveryRead a.port e.ref, partnerAddress s.commit.active.geometry e.address, e.length, false⟩] }
            queues := s.queues.set a.port ((s.queues.get a.port).map fun x =>
              if x.ref = e.ref then { x with state := .recovering } else x) }))
  ∧ (∀ (m : Memory) (x n : Nat), (m.readBeats x n).length = n
      ∧ ∀ (j : Nat) (d : Beat) (k : Fin 8), (m.readBeats x n)[j]? = some d → laneOf d k = m.byteAt (x + 8 * j + k))

/-- WRITE_COMPLETE: the enabled bytes of every beat, at the bank offsets of the operation (log entry 6), take their data with good parity and
every other byte of memory is unchanged; a mirrored WRITE appends its SECONDARY-WRITE at the partner bank and consumes the reservation; the
entry, unless detached, completes OK. -/
def Obligations.WriteCompletes : Prop :=
  ∀ (s : State) (b : Bank) (a : PortAccess) (beats : List WriteBeat),
    s.scheduler.timer = .running → s.Settled → (s.banks.get b).pair = none →
    (s.banks.get b).operation = some (.portWrite a beats) → ∃ t : State,
    exec (.writeComplete b) s = .next t
    ∧ (∀ x : Nat, (x < s.place b a.offset ∨ s.place b a.offset + 8 * beats.length ≤ x →
          t.memory.byteAt x = s.memory.byteAt x ∧ t.memory.faultyAt x = s.memory.faultyAt x))
    ∧ (∀ (j : Nat) (w : WriteBeat) (k : Fin 8), beats[j]? = some w →
          let x := s.place b a.offset + 8 * j + k
          (w.enables.getLsbD k = true → t.memory.byteAt x = laneOf w.data k ∧ t.memory.faultyAt x = false)
          ∧ (w.enables.getLsbD k = false →
              t.memory.byteAt x = s.memory.byteAt x ∧ t.memory.faultyAt x = s.memory.faultyAt x))
    ∧ (a.mirror = false → t.mirrors = s.mirrors)
    ∧ (a.mirror = true → t.mirrors = s.mirrors.set (partnerBank b)
        { s.mirrors.get (partnerBank b) with
          entries := (s.mirrors.get (partnerBank b)).entries
            ++ [⟨.secondaryWrite beats, partnerAddress s.commit.active.geometry a.address, beats.length, false⟩]
          reservations := (s.mirrors.get (partnerBank b)).reservations - 1 })
    ∧ t.queues = s.queues.set a.port ((s.queues.get a.port).filter fun x => decide (x.ref ≠ a.ref))
    ∧ (∀ e, s.findEntry a.port a.ref = some e → t.ports = s.ports.set a.port { s.ports.get a.port with
        completions := (s.ports.get a.port).completions.map fun c => if c.ref = a.ref ∧ c.state = .pending then
          { c with state := .done ⟨.ok, [], false⟩ } else c })
    ∧ (s.findEntry a.port a.ref = none → t.ports = s.ports)
    ∧ t = { s with
        memory := t.memory, mirrors := t.mirrors, queues := t.queues, ports := t.ports
        banks := s.banks.set b { s.banks.get b with operation := none } }

/-- ATOMIC_READ_COMPLETE: the outcome of the read is kept for the second slot: the old value, whose lane k is the byte at the bank offset
plus k, with the new value of R41 or the failed mark, and with the mark a DATA-FAULT record while the entry is in its queue. Memory is unchanged
and the completion entry stays PENDING. The old value and its parity are those of memory as it stands at the slot end (the model's, log
entry 9), and a bank offset names the byte at the bank's first address plus the offset (log entry 6). -/
def Obligations.AtomicReadCompletes : Prop :=
  ∀ (s : State) (b : Bank) (a : PortAccess) (p : AtomicPair),
    s.scheduler.timer = .running → s.Settled → (s.banks.get b).pair = some p → p.slot = .first →
    (s.banks.get b).operation = some (.atomicRead a) →
    let x := s.place b p.access.offset
    let oldValue := s.memory.readBeat x
    let kept := fun (r : AtomicResult) (u : State) => { u with
      banks := s.banks.set b { s.banks.get b with operation := none, pair := some { p with result := some r } }
      queues := s.queues.set p.access.port ((s.queues.get p.access.port).map fun e =>
        if e.ref = p.access.ref then { e with atomicResult := some r } else e) }
    (∀ k : Fin 8, laneOf oldValue k = s.memory.byteAt (x + k))
    ∧ ((∀ k < 8, s.memory.faultyAt (x + k) = false) → p.kind = .swap →
      exec (.atomicReadComplete b) s = .next (kept (.good oldValue p.operand) s))
    ∧ ((∀ k < 8, s.memory.faultyAt (x + k) = false) → p.kind = .fetchAdd →
      exec (.atomicReadComplete b) s = .next (kept (.good oldValue (oldValue + p.operand)) s))
    ∧ ((∃ k < 8, s.memory.faultyAt (x + k) = true) → s.findEntry p.access.port p.access.ref = none →
      exec (.atomicReadComplete b) s = .next (kept (.failed oldValue) s))
    ∧ ∀ e, (∃ k < 8, s.memory.faultyAt (x + k) = true) → s.findEntry p.access.port p.access.ref = some e →
      exec (.atomicReadComplete b) s = .next (kept (.failed oldValue) (s.report
        ⟨.dataFault, some p.access.port, s.tagOf p.access.port e.ref, some e.address, some e.bank, none,
          s.scheduler.cycleCount, s.scheduler.position⟩))

/-- ATOMIC_PAIR_END: after a good read the beat at the bank offset (log entry 6) holds the new value, every other byte is unchanged, a
mirrored atomic appends its copy, and the request completes OK with the old value; after a failed read memory is unchanged, a mirrored
atomic's reservation is released, its place held as freed until the next slot start, and the request completes DATA-FAULT. -/
def Obligations.AtomicPairEnds : Prop :=
  ∀ (s : State) (b : Bank) (p : AtomicPair),
    s.scheduler.timer = .running → s.Settled → (s.banks.get b).pair = some p → p.slot = .second →
    let x := s.place b p.access.offset
    let partner := s.mirrors.get (partnerBank b)
    let finished := fun (r : CompletionResult) (l : Backlog) (m : Memory) => { s with
      banks := s.banks.set b { s.banks.get b with operation := none, pair := none }
      mirrors := if p.access.mirror then s.mirrors.set (partnerBank b) l else s.mirrors
      memory := m
      queues := s.queues.set p.access.port ((s.queues.get p.access.port).filter fun y => decide (y.ref ≠ p.access.ref))
      ports := if s.findEntry p.access.port p.access.ref = none then s.ports else s.ports.set p.access.port
        { s.ports.get p.access.port with
        completions := (s.ports.get p.access.port).completions.map fun c =>
          if c.ref = p.access.ref ∧ c.state = .pending then { c with state := .done r } else c } }
    (∀ oldValue newValue, p.result = some (.good oldValue newValue) → ∃ m : Memory,
      exec (.atomicPairEnd b) s = .next (finished ⟨.ok, [oldValue], false⟩
        { partner with
          entries := partner.entries
            ++ [⟨.secondaryWrite [⟨0xFF, newValue⟩], partnerAddress s.commit.active.geometry p.access.address, 1, false⟩]
          reservations := partner.reservations - 1 } m)
      ∧ (∀ k : Fin 8, m.byteAt (x + k) = laneOf newValue k ∧ m.faultyAt (x + k) = false)
      ∧ ∀ y, y < x ∨ x + 8 ≤ y → m.byteAt y = s.memory.byteAt y ∧ m.faultyAt y = s.memory.faultyAt y)
    ∧ (∀ oldValue, p.result = some (.failed oldValue) → exec (.atomicPairEnd b) s = .next (finished ⟨.dataFault, [], false⟩
        { partner with reservations := partner.reservations - 1, freed := partner.freed + 1 } s.memory))

/-- SECONDARY_WRITE_COMPLETE: the copy's enabled bytes, at the bank offsets of the operation (log entry 6), take their data with good parity,
every other byte of memory is unchanged, and the performed entry leaves the backlog; nothing else changes. -/
def Obligations.SecondaryWriteCompletes : Prop :=
  ∀ (s : State) (b : Bank) (offset : Nat) (beats : List WriteBeat),
    s.scheduler.timer = .running → s.Settled → (s.banks.get b).pair = none →
    (s.banks.get b).operation = some (.secondaryWrite offset beats) → ∃ m : Memory,
    exec (.secondaryWriteComplete b) s = .next { s with
      banks := s.banks.set b { s.banks.get b with operation := none }
      mirrors := s.mirrors.set b { s.mirrors.get b with
        entries := (s.mirrors.get b).entries.filter fun e => !e.performing }
      memory := m }
    ∧ (∀ x : Nat, (x < s.place b offset ∨ s.place b offset + 8 * beats.length ≤ x →
          m.byteAt x = s.memory.byteAt x ∧ m.faultyAt x = s.memory.faultyAt x))
    ∧ (∀ (j : Nat) (w : WriteBeat) (k : Fin 8), beats[j]? = some w →
          let x := s.place b offset + 8 * j + k
          (w.enables.getLsbD k = true → m.byteAt x = laneOf w.data k ∧ m.faultyAt x = false)
          ∧ (w.enables.getLsbD k = false → m.byteAt x = s.memory.byteAt x ∧ m.faultyAt x = s.memory.faultyAt x))

/-- RECOVERY_READ_COMPLETE: the performed entry leaves the backlog; the RECOVERING request completes OK with the partner's data and the
recovered indication and a RECOVERED record, or DATA-FAULT with a DOUBLE-FAULT record; of a removed request the result is discarded.
Lane k of beat j of the data is the byte at the bank offset plus 8j + k. Data and parity are those of memory as it stands at the slot end
(the model's, log entry 9), and a bank offset names the byte at the bank's first address plus the offset (log entry 6). -/
def Obligations.RecoveryReadCompletes : Prop :=
  ∀ (s : State) (b : Bank) (offset length : Nat) (n : PortId) (ref : Nat),
    s.scheduler.timer = .running → s.Settled → (s.banks.get b).pair = none →
    (s.banks.get b).operation = some (.recoveryRead offset length n ref) →
    let idle : State := { s with
      banks := s.banks.set b { s.banks.get b with operation := none }
      mirrors := s.mirrors.set b { s.mirrors.get b with
        entries := (s.mirrors.get b).entries.filter fun e => !e.performing } }
    let record := fun (kind : FaultKind) (e : QueueEntry) => idle.report
      ⟨kind, some n, s.tagOf n e.ref, some e.address, some e.bank, none, s.scheduler.cycleCount, s.scheduler.position⟩
    let x := s.place b offset
    let data := s.memory.readBeats x length
    data.length = length
    ∧ (∀ (j : Nat) (d : Beat) (k : Fin 8), data[j]? = some d → laneOf d k = s.memory.byteAt (x + 8 * j + k))
    ∧ (s.findEntry n ref = none → exec (.recoveryReadComplete b) s = .next idle)
    ∧ ∀ e, s.findEntry n ref = some e →
      ((∀ k < 8 * length, s.memory.faultyAt (x + k) = false) →
        exec (.recoveryReadComplete b) s = .next ((record .recovered e).finishEntry n ref
          ⟨.ok, data, true⟩))
      ∧ ((∃ k < 8 * length, s.memory.faultyAt (x + k) = true) →
        exec (.recoveryReadComplete b) s = .next ((record .doubleFault e).finishEntry n ref ⟨.dataFault, [], false⟩))

/-- A request finishes once: its queue entry leaves, the others keep their order, and its PENDING completion entry becomes DONE in its place. A
fault record joins the young end of a fault queue with fewer than 16 records; a full queue is unchanged and the overflow flag set. Nothing
else changes. -/
def Obligations.FinishingAndReporting : Prop :=
  (∀ (s : State) (n : PortId) (ref : Nat) (r : CompletionResult), s.finishEntry n ref r = { s with
    queues := s.queues.set n ((s.queues.get n).filter fun x => decide (x.ref ≠ ref))
    ports := s.ports.set n { s.ports.get n with
      completions := (s.ports.get n).completions.map fun c =>
        if c.ref = ref ∧ c.state = .pending then { c with state := .done r } else c } })
  ∧ (∀ (s : State) (r : FaultRecord),
    (s.link.faults.length < 16 → s.report r = { s with link := { s.link with faults := s.link.faults ++ [r] } })
    ∧ (16 ≤ s.link.faults.length → s.report r = { s with link := { s.link with faultOverflow := true } }))

/-! ### Slot end and cycle boundary -/

/-- SLOT_END with nothing left to hand back. Below the last position, with nothing due or held open by an atomic: the next position. At the
last position: a normal boundary, which counts the cycle modulo 65536, ages every WAITING entry by one up to 255 or marks it due to expire
(its age plus one above a nonzero limit), has the sync unit judge the cycle (a second miss leaves the loss of lock due), and makes the
reaction of the commit controller due (unless the check is taken first and no commit is pending; a check taken first in a drain is in
DrainChecks). Where no slot is in progress, nothing happens. (What is marked or left due is log entry 4.) -/
def Obligations.SlotEndAdvances : Prop :=
  (∀ (s : State) (check : DrainCheckOrder), s.scheduler.timer = .running → s.Settled → s.BanksIdle →
    ((s.scheduler.forcedDue = false ∧ s.sync.truncationPending = false) ∨ s.heldOpen = true) →
    s.scheduler.position + 1 < s.slots → exec (.slotEnd check) s = .next { s with
      scheduler := { s.scheduler with timer := .starting, position := s.scheduler.position + 1 } })
  ∧ (∀ (s : State) (check : DrainCheckOrder), s.scheduler.timer = .running → s.Settled → s.BanksIdle →
    s.scheduler.forcedDue = false → s.sync.truncationPending = false → s.slots ≤ s.scheduler.position + 1 →
    (check = .checkAfterExpiry ∨ s.commit.state ≠ .draining) →
      exec (.slotEnd check) s = .next { s with
          scheduler := { s.scheduler with timer := .starting, position := 0, cycleCount := s.scheduler.cycleCount + 1 }
          queues := s.queues.mapPort fun n q => q.map fun e =>
            if e.state = .waiting then
              if s.commit.active.waitLimits.get n ≠ 0 ∧ (s.commit.active.waitLimits.get n).toNat < e.age + 1 then
                { e with expiring := true }
              else { e with age := min 255 (e.age + 1) }
            else e
          sync := if s.sync.pulseMark = false ∧ s.sync.state = .locked then
              if s.sync.missCount = 0 then { s.sync with missCount := 1 } else { s.sync with lostDue := true }
            else { s.sync with pulseMark := false }
          commit := { s.commit with reactionDue := decide (check = .checkAfterExpiry ∨ s.commit.state = .waiting) } })
  ∧ (∀ (s : State) (check : DrainCheckOrder), s.scheduler.timer ≠ .running → exec (.slotEnd check) s = .next s)

/-- A slot end first settles what the last boundary still owes (log entry 4), then hands back every result, the banks in the order LC.0, LC.1, UC.0,
UC.1 (log entry 3), and is then the slot end of the settled state with idle banks. It is the TRUNCATION or the FORCED_BOUNDARY when one falls.
The command of one result settles and hands back that bank alone. -/
def Obligations.SlotEndHandsEverythingBack : Prop :=
  ∀ (s : State) (check : DrainCheckOrder), s.scheduler.timer = .running →
    let u := (((s.settle.endBank .lc0).endBank .lc1).endBank .uc0).endBank .uc1
    u.Settled ∧ u.BanksIdle ∧ u.scheduler = s.scheduler
    ∧ (∃ t : State, exec (.slotEnd check) s = .next t ∧ exec (.slotEnd check) u = .next t
      ∧ t.scheduler.timer = .starting ∧ t.BanksIdle
      ∧ (s.truncationFalls = true → s.forcedFalls = false → exec (.truncation check) s = .next t)
      ∧ (s.forcedFalls = true → exec .forcedBoundary s = .next t))
    ∧ ∀ b : Bank,
      (∀ a, (s.banks.get b).operation = some (.portRead a) → exec (.readComplete b) s = .next (s.settle.endBank b))
      ∧ (∀ a beats, (s.banks.get b).operation = some (.portWrite a beats) →
          exec (.writeComplete b) s = .next (s.settle.endBank b))
      ∧ (∀ a, (s.banks.get b).operation = some (.atomicRead a) →
          exec (.atomicReadComplete b) s = .next (s.settle.endBank b))
      ∧ (∀ p, (s.banks.get b).pair = some p → p.slot = .second →
          exec (.atomicPairEnd b) s = .next (s.settle.endBank b))
      ∧ (∀ a beats, (s.banks.get b).operation = some (.secondaryWrite a beats) →
          exec (.secondaryWriteComplete b) s = .next (s.settle.endBank b))
      ∧ (∀ a l n ref, (s.banks.get b).operation = some (.recoveryRead a l n ref) →
          exec (.recoveryReadComplete b) s = .next (s.settle.endBank b))

/-- TRUNCATION, with nothing left to hand back: position 0, the next cycle count, every used bank under DYNAMIC that drops a REFRESH in debt, the
pending truncation and the pulse mark cleared, and ageing and the reaction of the commit controller as at a normal boundary. Held open by an
atomic, with none pending, or taken up by a forced boundary, it does not fall. Refresh debt: a used bank under DYNAMIC is in debt when a
position after the slot that ends, below L, holds REFRESH on its row; every other flag is as it was. -/
def Obligations.TruncationAndRefreshDebt : Prop :=
  ((∀ (s : State) (check : DrainCheckOrder), s.scheduler.timer = .running → s.Settled → s.BanksIdle →
    s.scheduler.forcedDue = false → s.sync.truncationPending = true → s.heldOpen = false →
    (check = .checkAfterExpiry ∨ s.commit.state ≠ .draining) →
      exec (.truncation check) s = .next { s with
          scheduler := { s.scheduler with timer := .starting, position := 0, cycleCount := s.scheduler.cycleCount + 1 }
          queues := s.queues.mapPort fun n q => q.map fun e =>
            if e.state = .waiting then
              if s.commit.active.waitLimits.get n ≠ 0 ∧ (s.commit.active.waitLimits.get n).toNat < e.age + 1 then
                { e with expiring := true }
              else { e with age := min 255 (e.age + 1) }
            else e
          banks := s.banks.mapBank fun b q => { q with debt := s.debtAfterDrop b q.debt }
          sync := { s.sync with truncationPending := false, pulseMark := false }
          commit := { s.commit with reactionDue := decide (check = .checkAfterExpiry ∨ s.commit.state = .waiting) } })
  ∧ (∀ (s : State) (check : DrainCheckOrder),
      s.scheduler.timer ≠ .running ∨ s.sync.truncationPending = false ∨ s.heldOpen = true ∨ s.scheduler.forcedDue = true →
      exec (.truncation check) s = .next s))
  ∧ (∀ (s : State) (b : Bank) (debt : Bool), s.debtAfterDrop b debt = true ↔
    debt = true ∨ (rowUsed s.commit.active.geometry.split b = true ∧ s.commit.active.geometry.kind = .dynamic
      ∧ ∃ q : Nat, s.scheduler.position < q ∧ q < s.slots ∧ (s.activeRow b).codeAt q = .refresh))

/-- FORCED_BOUNDARY, with nothing left to hand back: counter, position and pointers 0, traffic and fault queue emptied, refresh debts by
the dropped positions, sync unit restarted, capture FIFO emptied, SECONDARY-WRITEs, reservations and commit controller kept; the places
of the removed RECOVERY-READs are held as freed until the next slot start. Not due, or held open by an atomic, it does not fall. -/
def Obligations.ForcedBoundaryFalls : Prop :=
  (∀ s : State,
    let removed := fun e : BacklogEntry => match e.work with
      | .secondaryWrite _ => false
      | .recoveryRead _ _ => !e.performing
    s.scheduler.timer = .running → s.Settled → s.BanksIdle → s.scheduler.forcedDue = true → s.heldOpen = false →
    exec .forcedBoundary s = .next { s with
      scheduler := ⟨.starting, 0, 0, ⟨0, 0, 0, 0⟩, false⟩
      queues := ⟨[], [], [], []⟩
      ports := s.ports.map fun p => { p with completions := [] }
      mirrors := s.mirrors.map fun l => { l with
        entries := l.entries.filter fun e => !removed e
        freed := l.freed + (l.entries.filter removed).length }
      banks := s.banks.mapBank fun b q => { q with debt := s.debtAfterDrop b q.debt }
      sync := ⟨if s.commit.active.syncEnable then .seeking else .free, 0, 0, false, false, [], false, false⟩
      link := { s.link with faults := [], faultOverflow := false } })
  ∧ ∀ s : State, s.scheduler.timer ≠ .running ∨ s.scheduler.forcedDue = false ∨ s.heldOpen = true →
      exec .forcedBoundary s = .next s

/-! ### Boundary reactions -/

/-- TIMEOUT: in every port named, each entry that is due to expire leaves its queue at once, none being spared, and every other entry stays in
its order; the completion entries of those that leave become DONE TIMEOUT without data, and a TIMEOUT record of each, with port, tag,
address, stored bank, cycle count and position 0, goes to the fault queue, those of one port in acceptance order; nothing else changes.
With one port named its records stand next to each other (the model's, log entry 4); with none due nothing happens. -/
def Obligations.TimeoutExpiresEveryEntryDue : Prop :=
  (∀ (s t : State) (turns : List PortId), s.RefsFresh → s.Tied → exec (.timeout turns) s = .next t →
    let gone := fun n : PortId => if n ∈ turns then (s.queues.get n).filter QueueEntry.expiryDue else []
    ∃ records : List FaultRecord,
      (∀ n : PortId, records.filter (fun r => decide (r.port = some n)) = (gone n).map fun e =>
        ⟨.timeout, some n, s.tagOf n e.ref, some e.address, some e.bank, none, s.scheduler.cycleCount, 0⟩)
      ∧ (∀ r ∈ records, r.port ≠ none)
      ∧ t = { s with
          queues := s.queues.mapPort fun n q => q.filter fun e => !(gone n).contains e
          ports := s.ports.mapPort fun n p => { p with
            completions := p.completions.map fun c =>
              if (gone n).any (fun e => decide (e.ref = c.ref)) then { c with state := .done ⟨.timeout, [], false⟩ } else c }
          link := { s.link with
            faults := s.link.faults ++ records.take (16 - s.link.faults.length)
            faultOverflow := s.link.faultOverflow || decide (records ≠ [] ∧ 16 < s.link.faults.length + records.length) } })
  ∧ (∀ (s : State) (turns : List PortId), ∃ t : State, exec (.timeout turns) s = .next t
    ∧ ∀ n ∈ turns, ∀ e ∈ t.queues.get n, e.expiryDue = false)
  ∧ ∀ (s : State) (turns : List PortId), (∀ n ∈ turns, ∀ e ∈ s.queues.get n, e.expiryDue = false) →
      exec (.timeout turns) s = .next s

/-- SWAPPED at a plain swap. Without a WAITING atomic that loses its pair, no loss of lock due: the STAGED plan becomes ACTIVE, the outcome is
recorded with the cycle count, and the sync unit takes a changed enable; pointers, debts and queues are kept. In every case, the WAITING
atomics without a pair in the new grid leave their queues, and every other entry stays in its order; their completion entries become DONE
NO-LINK without data, and a NO-LINK record of each, with port, tag, address, stored bank, cycle count and position 0, goes to the fault
queue, those of one port in acceptance order; nothing else changes. A loss of lock that is due comes before any swap
(log entry 24). -/
def Obligations.PlainSwap : Prop :=
  (∀ (s : State) (turns : List PortId), s.commit.reactionDue = true → s.commit.state = .waiting → s.sync.lostDue = false →
    (∀ n : PortId, ∀ e ∈ s.queues.get n, e.lacksPair s.commit.staged n = false) →
    exec (.swapped turns) s = .next { s with
      commit := { s.commit with
        active := s.commit.staged, state := .none, reactionDue := false
        record := ⟨some (.swapped, s.scheduler.cycleCount), true⟩ }
      sync := match s.commit.active.syncEnable, s.commit.staged.syncEnable with
        | false, true => { s.sync with state := .seeking, missCount := 0 }
        | true, false => { s.sync with state := .free, missCount := 0 }
        | _, _ => s.sync })
  ∧ ((∀ (s t : State) (turns : List PortId) (n : PortId), s.RefsFresh → s.Tied →
    s.commit.reactionDue = true → s.commit.state = .waiting → exec (.swapped turns) s = .next t →
    t.queues.get n = (s.queues.get n).filter fun e => !e.lacksPair s.commit.staged n)
  ∧ (∀ (s t : State) (turns : List PortId), s.RefsFresh → s.Tied →
    s.commit.reactionDue = true → s.commit.state = .waiting → s.sync.lostDue = false → exec (.swapped turns) s = .next t →
    let gone := fun n : PortId => (s.queues.get n).filter fun e =>
      decide (e.state = .waiting) && (match e.work with
        | .atomic _ _ => true
        | .read | .write _ => false) && !hasPair s.commit.staged n e.bank
    ∃ records : List FaultRecord,
      (∀ n : PortId, records.filter (fun r => decide (r.port = some n)) = (gone n).map fun e =>
        ⟨.noLink, some n, s.tagOf n e.ref, some e.address, some e.bank, none, s.scheduler.cycleCount, 0⟩)
      ∧ (∀ r ∈ records, r.port ≠ none)
      ∧ t = { s with
          queues := s.queues.mapPort fun n q => q.filter fun e => !(gone n).contains e
          ports := s.ports.mapPort fun n p => { p with
            completions := p.completions.map fun c =>
              if (gone n).any (fun e => decide (e.ref = c.ref)) then { c with state := .done ⟨.noLink, [], false⟩ } else c }
          commit := { s.commit with
            active := s.commit.staged, state := .none, reactionDue := false
            record := ⟨some (.swapped, s.scheduler.cycleCount), true⟩ }
          sync := match s.commit.active.syncEnable, s.commit.staged.syncEnable with
            | false, true => { s.sync with state := .seeking, missCount := 0 }
            | true, false => { s.sync with state := .free, missCount := 0 }
            | _, _ => s.sync
          link := { s.link with
            faults := s.link.faults ++ records.take (16 - s.link.faults.length)
            faultOverflow := s.link.faultOverflow || decide (records ≠ [] ∧ 16 < s.link.faults.length + records.length) } })
  ∧ ∀ (s u : State) (turns : List PortId), s.swapDue = true → exec .syncLost s = .next u →
      exec (.swapped turns) s = exec (.swapped turns) u)

/-- SWAPPED at a geometry swap: a drain found empty installs the STAGED plan, sets every OPEN pointer to 0 and adjusts the refresh debts to
the new memory kind and rows; without an emptied drain or a WAITING commit at a boundary nothing is swapped. -/
def Obligations.GeometrySwap : Prop :=
  (∀ (s : State) (turns : List PortId), s.commit.reactionDue = true → s.commit.state = .draining → s.sync.lostDue = false →
    (∀ n : PortId, s.queues.get n = []) → (∀ b : Bank, (s.mirrors.get b).entries = []) →
    exec (.swapped turns) s = .next { s with
      commit := { s.commit with
        active := s.commit.staged, state := .none, reactionDue := false
        record := ⟨some (.swapped, s.scheduler.cycleCount), true⟩ }
      scheduler := { s.scheduler with pointers := ⟨0, 0, 0, 0⟩ }
      banks := s.banks.mapBank fun b q => { q with debt := match s.commit.staged.geometry.kind with
        | .static => false
        | .dynamic => q.debt && rowUsed s.commit.staged.geometry.split b }
      sync := match s.commit.active.syncEnable, s.commit.staged.syncEnable with
        | false, true => { s.sync with state := .seeking, missCount := 0 }
        | true, false => { s.sync with state := .free, missCount := 0 }
        | _, _ => s.sync })
  ∧ ∀ (s : State) (turns : List PortId),
      s.commit.reactionDue = false ∨ s.commit.state = .none
        ∨ (s.commit.state = .draining ∧ ((∃ n : PortId, s.queues.get n ≠ []) ∨ ∃ b : Bank, (s.mirrors.get b).entries ≠ [])) →
      exec (.swapped turns) s = .next s

/-- A drain check that finds something left. ABANDONED: when the count passes the ACTIVE drain limit the commit ends without a swap, and both
plans stay; otherwise nothing is given up. Within the limit the count goes up by one and the commit drains on: at the next slot start, or
with the slot end when the check is taken first (log entry 4). A normal or truncated boundary makes the reaction due. With the check taken
first it is the boundary with the check taken later, but that a check that ends no commit is taken at once: a swap that is due, of a WAITING
commit or of a drain that is empty, and an abandonment stay due. -/
def Obligations.DrainChecks : Prop :=
  (∀ s : State,
    let left := (∃ n : PortId, s.queues.get n ≠ []) ∨ ∃ b : Bank, (s.mirrors.get b).entries ≠ []
    (s.commit.reactionDue = true → s.commit.state = .draining → left → s.commit.active.drainLimit < s.commit.drainCount + 1 →
      exec .abandoned s = .next { s with commit := { s.commit with
        state := .none, drainCount := s.commit.drainCount + 1, reactionDue := false
        record := ⟨some (.abandoned, s.scheduler.cycleCount), true⟩ } })
    ∧ (s.commit.reactionDue = false ∨ s.commit.state ≠ .draining ∨ ¬ left ∨ s.commit.drainCount + 1 ≤ s.commit.active.drainLimit →
      exec .abandoned s = .next s))
  ∧ (∀ s : State, s.commit.state = .draining → s.drained = false → s.commit.drainCount + 1 ≤ s.commit.active.drainLimit →
    let counted := { s.commit with drainCount := s.commit.drainCount + 1, reactionDue := false }
    (s.scheduler.timer = .starting → s.commit.reactionDue = true →
      exec .slotStart s = exec .slotStart { s with commit := counted })
    ∧ (s.scheduler.timer = .running → s.Settled → s.BanksIdle → s.scheduler.forcedDue = false →
        s.sync.truncationPending = false → s.slots ≤ s.scheduler.position + 1 →
        ∃ t : State, exec (.slotEnd .checkFirst) s = .next t ∧ t.commit = counted))
  ∧ (∀ s u : State, s.scheduler.timer = .running → s.forcedFalls = false →
    (s.truncationFalls = true ∨ s.slots ≤ s.scheduler.position + 1) → exec (.slotEnd .checkAfterExpiry) s = .next u →
    let left := (∃ n : PortId, u.queues.get n ≠ []) ∨ ∃ b : Bank, (u.mirrors.get b).entries ≠ []
    let taken := fun t : State => exec (.slotEnd .checkFirst) s = .next t
      ∧ (s.truncationFalls = true → exec (.truncation .checkFirst) s = .next t)
    u.commit.reactionDue = true
    ∧ (u.commit.state = .waiting → taken u)
    ∧ (u.commit.state = .draining → ¬ left → taken u ∧ u.swapDue = true)
    ∧ (u.commit.state = .draining → left → u.commit.active.drainLimit < u.commit.drainCount + 1 → taken u ∧ u.abandonDue = true)
    ∧ (u.commit.state = .draining → left → u.commit.drainCount + 1 ≤ u.commit.active.drainLimit →
        taken { u with commit := { u.commit with drainCount := u.commit.drainCount + 1, reactionDue := false } })
    ∧ (u.commit.state = .none → taken { u with commit := { u.commit with reactionDue := false } }))

/-! ### Sync and capture -/

/-- SYNC_LOST: the loss of lock that is due takes the sync state to LOST with miss count 2 and a SYNC-LOST record at position 0. SYNC_PULSE with
nothing owed from the last boundary: ignored in reset, in FREE, with a truncation pending, with the pulse mark set, or with a forced
boundary due; on time in the last slot; early in every other, with a slip counted and reported in LOCKED.
What is owed, the loss of lock, a swap, an abandonment or one more counted, is taken before the pulse (log entry 5). -/
def Obligations.SyncPulseAndLossOfLock : Prop :=
  (∀ s : State,
    (s.sync.lostDue = true → exec .syncLost s = .next (({ s with
      sync := { s.sync with state := .lost, missCount := 2, lostDue := false } } : State).report
        ⟨.syncLost, none, none, none, none, none, s.scheduler.cycleCount, 0⟩))
    ∧ (s.sync.lostDue = false → exec .syncLost s = .next s))
  ∧ ((∀ s : State, s.sync.lostDue = false → (s.scheduler.timer = .starting → s.commit.reactionDue = false) →
    let ignored := s.scheduler.timer = .stopped ∨ s.sync.state = .free ∨ s.sync.truncationPending = true
      ∨ s.sync.pulseMark = true ∨ s.scheduler.forcedDue = true
    let locked : SyncUnit := { s.sync with state := .locked, missCount := 0, pulseMark := true }
    (ignored → exec .syncPulse s = .next s)
    ∧ (¬ ignored → s.slots ≤ s.scheduler.position + 1 → exec .syncPulse s = .next { s with sync := locked })
    ∧ (¬ ignored → s.scheduler.position + 1 < s.slots → s.sync.state ≠ .locked →
        exec .syncPulse s = .next { s with sync := { locked with truncationPending := true } })
    ∧ (¬ ignored → s.scheduler.position + 1 < s.slots → s.sync.state = .locked →
        exec .syncPulse s = .next { s with
          sync := { locked with truncationPending := true, slipCount := min 255 (s.sync.slipCount + 1) }
          link := s.link.report ⟨.syncSlip, none, none, none, none, none, s.scheduler.cycleCount, s.scheduler.position⟩ }))
  ∧ (∀ s u : State, exec .syncLost s = .next u → exec .syncPulse s = exec .syncPulse u)
  ∧ (∀ s u : State, s.scheduler.timer = .starting → s.swapDue = true → exec (.swapped []) s = .next u →
      exec .syncPulse s = exec .syncPulse u)
  ∧ (∀ s u : State, s.scheduler.timer = .starting → s.abandonDue = true → exec .abandoned s = .next u →
      exec .syncPulse s = exec .syncPulse u)
  ∧ (∀ s : State, s.scheduler.timer = .starting → s.commit.reactionDue = true → s.commit.state = .draining → s.drained = false →
      s.commit.drainCount + 1 ≤ s.commit.active.drainLimit →
      exec .syncPulse s = exec .syncPulse { s with
        commit := { s.commit with drainCount := s.commit.drainCount + 1, reactionDue := false } })
  ∧ (∀ s : State, s.scheduler.timer = .starting → s.commit.state = .none →
      exec .syncPulse s = exec .syncPulse { s with commit := { s.commit with reactionDue := false } }))

/-- STROBE_EDGE: with strobe capture on, a capture record joins the FIFO, or sets the overflow flag when it holds 4; with it off, or in reset,
nothing happens. CAPTURE_NOW makes a record with source COMMAND, or sets the overflow flag when the FIFO holds 4, and returns OK either way.
The record holds the count, the position and the sync state as they stand, also between a slot end and the next slot start (there the
model's choice, log entry 5). -/
def Obligations.CapturesAreMade : Prop :=
  (∀ s : State,
    let record : CaptureRecord := ⟨s.scheduler.cycleCount, s.scheduler.position, s.sync.state, .strobe⟩
    (s.scheduler.timer ≠ .stopped → s.link.strobeCapture = true → s.sync.captures.length < 4 →
      exec .strobeEdge s = .next { s with sync := { s.sync with captures := s.sync.captures ++ [record] } })
    ∧ (s.scheduler.timer ≠ .stopped → s.link.strobeCapture = true → 4 ≤ s.sync.captures.length →
      exec .strobeEdge s = .next { s with sync := { s.sync with captureOverflow := true } })
    ∧ (s.scheduler.timer = .stopped ∨ s.link.strobeCapture = false → exec .strobeEdge s = .next s))
  ∧ (∀ (s : State) (check : Byte), s.Receives [0x04] check →
    let replied := fun u : SyncUnit => ({ s with
      sync := u, link := { s.link with receiver := .replying [0x00, checkByte [0x00]] } } : State)
    (s.sync.captures.length < 4 → exec (.captureNow check) s = .next (replied { s.sync with
      captures := s.sync.captures ++ [⟨s.scheduler.cycleCount, s.scheduler.position, s.sync.state, .command⟩] }))
    ∧ (4 ≤ s.sync.captures.length → exec (.captureNow check) s = .next (replied { s.sync with captureOverflow := true })))

/-! ### Management link -/

/-- The frame receiver: select going active opens a frame (not in reset, and not when it is active already); its release returns to IDLE from
every state; the last byte of a reply leads to SPENT; an unknown code byte is answered BAD-COMMAND. The data output is not driven in IDLE
and in reset, is 0 in RECEIVING and SPENT, and gives the bytes of the reply in REPLYING, further bytes reading as 0. -/
def Obligations.FrameReceiver : Prop :=
  ∀ s : State,
    (s.link.selectActive = false → s.scheduler.timer ≠ .stopped →
      exec .frameOpen s = .next { s with link := { s.link with selectActive := true, receiver := .receiving } })
    ∧ (s.link.selectActive = false → s.scheduler.timer = .stopped →
      exec .frameOpen s = .next { s with link := { s.link with selectActive := true } })
    ∧ (s.link.selectActive = true → exec .frameOpen s = .next s)
    ∧ exec .selectRelease s = .next { s with link := { s.link with selectActive := false, receiver := .idle } }
    ∧ (∀ reply, s.link.receiver = .replying reply →
      exec .replySpent s = .next { s with link := { s.link with receiver := .spent } })
    ∧ ((∀ reply, s.link.receiver ≠ .replying reply) → exec .replySpent s = .next s)
    ∧ (∀ code : Byte, code ∉ [0x01#8, 0x02#8, 0x03#8, 0x04#8, 0x10#8, 0x11#8, 0x12#8, 0x13#8, 0x14#8, 0x18#8, 0x20#8, 0x21#8,
        0x30#8, 0x31#8, 0x3C#8] → s.link.receiver = .receiving →
      exec (.badCommand code) s = .next { s with link := { s.link with receiver := .replying [0x03, checkByte [0x03]] } })
    ∧ (∀ k : Nat, (s.scheduler.timer = .stopped ∨ s.link.receiver = .idle → s.dataOutput k = none)
      ∧ (s.scheduler.timer ≠ .stopped → s.link.receiver = .receiving ∨ s.link.receiver = .spent → s.dataOutput k = some 0)
      ∧ ∀ reply : List Byte, s.scheduler.timer ≠ .stopped → s.link.receiver = .replying reply →
          (∀ v, reply[k]? = some v → s.dataOutput k = some v) ∧ (reply.length ≤ k → s.dataOutput k = some 0))

/-- A frame with a wrong check byte is answered CHECK-ERROR and does nothing else, whatever its command and arguments; a frame is taken only
while the receiver is RECEIVING. The check byte is the register after the bits of every byte, most significant first, from 0: each bit shifts
it left, and where the bit and the register's top bit differ it is exclusive-ored with 07h. A run of bytes followed by its own check byte
leaves the register at 0, and the register of a longer run goes on from that of the shorter. -/
def Obligations.CheckByte : Prop :=
  (∀ (c : Instr) (s : State) (frame : List Byte) (check : Byte), frameOf c = some (frame, check) →
    (s.link.receiver = .receiving → check ≠ checkByte frame →
      exec c s = .next { s with link := { s.link with receiver := .replying [0x02, checkByte [0x02]] } })
    ∧ (s.link.receiver ≠ .receiving → exec c s = .next s))
  ∧ (∀ bytes more : List Byte, checkByte (bytes ++ [checkByte bytes]) = 0
    ∧ checkByte (bytes ++ more) = more.foldl crcByte (checkByte bytes))
  ∧ (let bitStep := fun (register : Byte) (bit : Bool) =>
      if register.getLsbD 7 = bit then register <<< 1 else (register <<< 1) ^^^ 0x07#8
    let bits := fun v : Byte => [v.getLsbD 7, v.getLsbD 6, v.getLsbD 5, v.getLsbD 4, v.getLsbD 3, v.getLsbD 2, v.getLsbD 1,
      v.getLsbD 0]
    ∀ bytes : List Byte, checkByte bytes = (bytes.flatMap bits).foldl bitStep 0)

/-- While a commit is pending, every staged edit, RESTAGE and COMMIT is answered BUSY, whatever its arguments. A command with an argument outside
its values is answered BAD-ARGUMENT (the staged edits in commit state NONE, where BUSY does not come first). Either changes nothing else. -/
def Obligations.BusyAndBadArguments : Prop :=
  (∀ (c : Instr) (s : State) (frame : List Byte) (check : Byte), frameOf c = some (frame, check) → busyDuringCommit c = true →
    s.Receives frame check → s.commit.state ≠ .none →
    exec c s = .next { s with link := { s.link with receiver := .replying [0x01, checkByte [0x01]] } })
  ∧ (∀ (s : State) (check : Byte),
    let refused : State := { s with link := { s.link with receiver := .replying [0x04, checkByte [0x04]] } }
    (s.commit.state = .none →
      (∀ row position code : Byte, 3 < row.toNat ∨ 7 < position.toNat ∨ 7 < code.toNat →
        s.Receives [0x10, row, position, code] check → exec (.writeGrid row position code check) s = .next refused)
      ∧ (∀ (index : Byte) (image : Vector Byte 6), 15 < index.toNat ∨ 4 ≤ image[4].toNat →
        s.Receives (0x11 :: index :: image.toList) check → exec (.writeRegion index image check) s = .next refused)
      ∧ (∀ image : Vector Byte 4, (image[0] ≠ 4 ∧ image[0] ≠ 8) ∨ 32 ≤ image[1].toNat
          ∨ 256 * image[2].toNat + image[3].toNat = 0 ∨ 4095 < 256 * image[2].toNat + image[3].toNat →
        s.Receives (0x12 :: image.toList) check → exec (.writeGeometry image check) s = .next refused)
      ∧ (∀ port limit : Byte, 3 < port.toNat →
        s.Receives [0x13, port, limit] check → exec (.writePortLimit port limit check) s = .next refused))
    ∧ (∀ plan item : Byte, 1 < plan.toNat ∨ (3 < item.toNat ∧ item.toNat < 16) ∨ 0x21 < item.toNat →
        s.Receives [0x18, plan, item] check → exec (.readPlan plan item check) s = .next refused)
    ∧ (∀ mask : Byte, 8 ≤ mask.toNat → s.Receives [0x30, mask] check → exec (.setAlertMask mask check) s = .next refused)
    ∧ (∀ setting : Byte, 1 < setting.toNat → s.Receives [0x31, setting] check →
        exec (.setStrobe setting check) s = .next refused))

/-- A staged edit in commit state NONE with good arguments writes the fields it names and no other, and is answered OK. -/
def Obligations.StagedEdits : Prop :=
  ∀ (s : State) (check : Byte), s.commit.state = .none →
    let edited := fun p : Plan => ({ s with
      commit := { s.commit with staged := p }
      link := { s.link with receiver := .replying [0x00, checkByte [0x00]] } } : State)
    let p := s.commit.staged
    (∀ (b : Bank) (position : Fin 8) (code : SlotCode) (row at' value : Byte), row.toNat = rowNumber b → at'.toNat = position →
      value.toNat = code.value → s.Receives [0x10, row, at', value] check →
      exec (.writeGrid row at' value check) s =
        .next (edited { p with grid := p.grid.set b ⟨(p.grid.get b).codes.set position code⟩ }))
    ∧ (∀ (i : Fin 16) (index : Byte) (image : Vector Byte 6), index.toNat = i → image[4].toNat < 4 →
      s.Receives (0x11 :: index :: image.toList) check →
      exec (.writeRegion index image check) s = .next (edited { p with
        regions := p.regions.set i ⟨image[4].getLsbD 0, image[0] ++ image[1], image[2] ++ image[3],
          image[5].extractLsb' 4 4, image[5].extractLsb' 0 4, image[4].getLsbD 1⟩ }))
    ∧ (∀ (length : CycleLength) (image : Vector Byte 4), image[0].toNat = length.slots → image[1].toNat < 32 →
      0 < 256 * image[2].toNat + image[3].toNat → 256 * image[2].toNat + image[3].toNat ≤ 4095 →
      s.Receives (0x12 :: image.toList) check →
      exec (.writeGeometry image check) s = .next (edited { p with
        geometry := ⟨length, image[1].getLsbD 0, if image[1].getLsbD 1 then .mib128 else .mib64,
          if image[1].getLsbD 2 then .static else .dynamic⟩
        syncEnable := image[1].getLsbD 3
        defaultPolicy := if image[1].getLsbD 4 then .deny else .allow
        drainLimit := 256 * image[2].toNat + image[3].toNat }))
    ∧ (∀ (n : PortId) (port limit : Byte), port.toNat = n → s.Receives [0x13, port, limit] check →
      exec (.writePortLimit port limit check) s = .next (edited { p with waitLimits := p.waitLimits.set n limit }))

/-- RESTAGE in commit state NONE copies every field of the ACTIVE plan into the STAGED plan and returns OK. -/
def Obligations.RestageCopiesTheActivePlan : Prop :=
  ∀ (s : State) (check : Byte), s.commit.state = .none → s.Receives [0x14] check → ∃ t : State,
    exec (.restage check) s = .next t
    ∧ t = { s with
        commit := { s.commit with staged := s.commit.active }
        link := { s.link with receiver := .replying [0x00, checkByte [0x00]] } }
    ∧ t.commit.staged = t.commit.active ∧ t.commit.geometryChange = false

/-- READ_PLAN returns one item of the plan named, in every commit state, and changes nothing but the receiver. A grid row is four bytes, each
with the codes of two positions, the lower position in its high four bits. -/
def Obligations.ReadPlanReturnsAnItem : Prop :=
  (∀ (s : State) (plan item check : Byte), plan.toNat ≤ 1 → s.Receives [0x18, plan, item] check →
    let p := if plan = 0 then s.commit.active else s.commit.staged
    let replied := fun bytes : List Byte => ({ s with link := { s.link with
      receiver := .replying (0x00 :: bytes ++ [checkByte (0x00 :: bytes)]) } } : State)
    (∀ b : Bank, item.toNat = rowNumber b → exec (.readPlan plan item check) s = .next (replied (rowImage (p.grid.get b))))
    ∧ (∀ i : Fin 16, item.toNat = 16 + i → exec (.readPlan plan item check) s = .next (replied (regionImage (p.region i))))
    ∧ (item.toNat = 0x20 → exec (.readPlan plan item check) s = .next (replied (geometryImage p.general)))
    ∧ (item.toNat = 0x21 → exec (.readPlan plan item check) s = .next (replied
        [p.waitLimits.p0, p.waitLimits.p1, p.waitLimits.p2, p.waitLimits.p3])))
  ∧ ∀ r : Row,
    let value := fun k : Nat => match r.codeAt k with
      | .port n => n.val
      | .openSlot => 4
      | .mirror => 5
      | .refresh => 6
      | .idle => 7
    (rowImage r).map BitVec.toNat =
      [16 * value 0 + value 1, 16 * value 2 + value 3, 16 * value 4 + value 5, 16 * value 6 + value 7]

/-- What READ-PLAN returns, WRITE-REGION and WRITE-GEOMETRY take back unchanged: no field of a region entry or of the geometry item is lost
in its bytes. -/
def Obligations.PlanImagesRoundTrip : Prop :=
  (∀ e : RegionEntry, ∃ image : Vector Byte 6, image.toList = regionImage e ∧ regionOfImage image = some e)
  ∧ ∀ p : Plan, p.InRange → ∃ image : Vector Byte 4, image.toList = geometryImage p.general ∧ generalOfImage image = some p.general

/-- COMMIT in commit state NONE: a failed validation is recorded and returned with its reason and location and changes no plan; a valid plan
waits, or drains with count 0 when its geometry differs. -/
def Obligations.CommitValidates : Prop :=
  ∀ (s : State) (check : Byte), s.commit.state = .none → s.Receives [0x20] check →
    let replied := fun (c : CommitController) (bytes : List Byte) => ({ s with
      commit := c
      link := { s.link with receiver := .replying (0x00 :: bytes ++ [checkByte (0x00 :: bytes)]) } } : State)
    (∀ f : PlanFailure, validate s.commit.staged = some f → exec (.commit check) s = .next (replied
      { s.commit with record := ⟨some (.refused f, s.scheduler.cycleCount), true⟩ } [0x02, f.reason, f.location]))
    ∧ (validate s.commit.staged = none → s.commit.staged.geometry = s.commit.active.geometry →
      exec (.commit check) s = .next (replied { s.commit with state := .waiting } [0x00, 0x00, 0x00]))
    ∧ (validate s.commit.staged = none → s.commit.staged.geometry ≠ s.commit.active.geometry →
      exec (.commit check) s = .next (replied { s.commit with state := .draining, drainCount := 0 } [0x01, 0x00, 0x00]))

/-- Validation passes exactly when every used row refreshes (under DYNAMIC), every run of equal port codes has its turnaround (in split
mode), and every enabled region entry covers pages in order, in memory and, if mirrored, in one channel. Where it fails, the failure is
the first in the order of Table 8-2: NO-REFRESH with the first row that fails, then NO-TURNAROUND with the first row and its first
failing run, then the first failing region entry with the first of its three checks that fails. -/
def Obligations.ValidationPassesExactly : Prop :=
  ∀ p : Plan,
    let slots := p.geometry.cycleLength.slots
    let before := fun k : Nat => if k = 0 then slots - 1 else k - 1
    let isRunStart := fun (b : Bank) (k : Nat) => k + 1 < slots ∧ (∃ n, (p.grid.get b).codeAt k = .port n)
      ∧ (p.grid.get b).codeAt (k + 1) = (p.grid.get b).codeAt k
      ∧ (k = 0 ∨ (p.grid.get b).codeAt (k - 1) ≠ (p.grid.get b).codeAt k)
    let pages := p.geometry.size.bytes / 4096
    (validate p = none ↔
      (p.geometry.kind = .dynamic → ∀ b, rowUsed p.geometry.split b = true → ∃ k < slots, (p.grid.get b).codeAt k = .refresh)
      ∧ (p.geometry.split = true → ∀ b k, isRunStart b k →
          (p.grid.get b).codeAt (before k) = .idle ∧ (p.grid.get (siblingRow b)).codeAt (before k) = .idle)
      ∧ ∀ i : Fin 16, (p.region i).enabled = true →
          (p.region i).basePage.toNat ≤ (p.region i).limitPage.toNat ∧ (p.region i).limitPage.toNat < pages
          ∧ ((p.region i).mirror = true → (p.region i).limitPage.toNat < pages / 2 ∨ pages / 2 ≤ (p.region i).basePage.toNat))
    ∧ (let refreshes := fun b : Bank => ∃ k < slots, (p.grid.get b).codeAt k = .refresh
      let turns := fun (b : Bank) (k : Nat) =>
        (p.grid.get b).codeAt (before k) = .idle ∧ (p.grid.get (siblingRow b)).codeAt (before k) = .idle
      let covers := fun i : Fin 16 => (p.region i).enabled = true →
        (p.region i).basePage.toNat ≤ (p.region i).limitPage.toNat ∧ (p.region i).limitPage.toNat < pages
        ∧ ((p.region i).mirror = true → (p.region i).limitPage.toNat < pages / 2 ∨ pages / 2 ≤ (p.region i).basePage.toNat)
      let refreshed := p.geometry.kind = .dynamic → ∀ b, rowUsed p.geometry.split b = true → refreshes b
      let turned := p.geometry.split = true → ∀ b k, isRunStart b k → turns b k
      ∀ f : PlanFailure, validate p = some f ↔ match f with
        | .noRefresh b => p.geometry.kind = .dynamic ∧ rowUsed p.geometry.split b = true ∧ ¬ refreshes b
          ∧ ∀ c, rowNumber c < rowNumber b → rowUsed p.geometry.split c = true → refreshes c
        | .noTurnaround b k => refreshed ∧ p.geometry.split = true ∧ isRunStart b k ∧ ¬ turns b k
          ∧ (∀ j < k, isRunStart b j → turns b j) ∧ ∀ c j, rowNumber c < rowNumber b → isRunStart c j → turns c j
        | .regionOrder i => refreshed ∧ turned ∧ (∀ j < i, covers j) ∧ (p.region i).enabled = true
          ∧ (p.region i).limitPage.toNat < (p.region i).basePage.toNat
        | .regionRange i => refreshed ∧ turned ∧ (∀ j < i, covers j) ∧ (p.region i).enabled = true
          ∧ (p.region i).basePage.toNat ≤ (p.region i).limitPage.toNat ∧ pages ≤ (p.region i).limitPage.toNat
        | .mirrorSpan i => refreshed ∧ turned ∧ (∀ j < i, covers j) ∧ (p.region i).enabled = true
          ∧ (p.region i).basePage.toNat ≤ (p.region i).limitPage.toNat ∧ (p.region i).limitPage.toNat < pages
          ∧ (p.region i).mirror = true ∧ (p.region i).basePage.toNat < pages / 2 ∧ pages / 2 ≤ (p.region i).limitPage.toNat)

/-- CANCEL_COMMIT ends a pending commit as CANCELLED, keeps both plans, the queues, the backlogs and the drain count, and reopens the acceptance
gate of every port that has room and no reset; in commit state NONE it returns EMPTY and changes nothing else. -/
def Obligations.CancelCommit : Prop :=
  ∀ (s : State) (check : Byte), s.Receives [0x21] check →
    (s.commit.state ≠ .none → ∃ t : State, exec (.cancelCommit check) s = .next t
      ∧ t = { s with
          commit := { s.commit with state := .none, record := ⟨some (.cancelled, s.scheduler.cycleCount), true⟩ }
          link := { s.link with receiver := .replying [0x00, checkByte [0x00]] } }
      ∧ ∀ n : PortId, s.scheduler.timer ≠ .stopped → (s.ports.get n).resetLine = false →
          (s.ports.get n).completions.length < 8 → t.gateOpen n = true)
    ∧ (s.commit.state = .none → exec (.cancelCommit check) s = .next
        { s with link := { s.link with receiver := .replying [0x05, checkByte [0x05]] } })

/-- READ_STATUS returns the twelve bytes of the status block as they stand and clears the unreported flag and both overflow flags. The block's
fields stand at their bits: commit state, unreported flag and outcome; reason and location, 0 unless REFUSED; result cycle count, 0 while
there is no outcome; sync state and miss count; slip count; fault count and overflow; capture count and overflow; cycle count; alert
mask. Between a slot end and the next slot start they are read as they stand too (there the model's choice, log entry 5). -/
def Obligations.ReadStatusAndItsBlock : Prop :=
  (∀ (s : State) (check : Byte), s.Receives [0x01] check →
    s.statusBlock.length = 12
    ∧ exec (.readStatus check) s = .next { s with
        commit := { s.commit with record := { s.commit.record with unreported := false } }
        sync := { s.sync with captureOverflow := false }
        link := { s.link with
          faultOverflow := false
          receiver := .replying (0x00 :: s.statusBlock ++ [checkByte (0x00 :: s.statusBlock)]) } })
  ∧ (∀ s : State, s.WithinCapacity → s.CountersInRange →
    let byte := fun k : Nat => (s.statusBlock.getD k 0).toNat
    byte 0 % 4 = s.commit.state.number ∧ (byte 0 / 4 % 2 = 1 ↔ s.commit.record.unreported = true)
    ∧ byte 0 / 16 = (match s.commit.record.last with
        | none => 0
        | some (.swapped, _) => 1
        | some (.refused _, _) => 2
        | some (.abandoned, _) => 3
        | some (.cancelled, _) => 4
        | some (.abortedByReset, _) => 5)
    ∧ (byte 1, byte 2) = (match s.commit.record.last with
        | some (.refused (.noRefresh b), _) => (1, 16 * rowNumber b)
        | some (.refused (.noTurnaround b k), _) => (2, (16 * rowNumber b + k) % 256)
        | some (.refused (.regionOrder i), _) => (3, i.val)
        | some (.refused (.regionRange i), _) => (4, i.val)
        | some (.refused (.mirrorSpan i), _) => (5, i.val)
        | _ => (0, 0))
    ∧ (∀ o n, s.commit.record.last = some (o, n) → 256 * byte 3 + byte 4 = n.toNat)
    ∧ (s.commit.record.last = none → byte 3 = 0 ∧ byte 4 = 0)
    ∧ byte 5 % 4 = s.sync.state.number ∧ byte 5 / 4 = s.sync.missCount ∧ byte 6 = s.sync.slipCount
    ∧ byte 7 % 32 = s.link.faults.length ∧ (byte 7 / 128 = 1 ↔ s.link.faultOverflow = true)
    ∧ byte 8 % 8 = s.sync.captures.length ∧ (byte 8 / 128 = 1 ↔ s.sync.captureOverflow = true)
    ∧ 256 * byte 9 + byte 10 = s.scheduler.cycleCount.toNat
    ∧ (byte 11 % 2 = 1 ↔ s.link.alertMask.fault = true) ∧ (byte 11 / 2 % 2 = 1 ↔ s.link.alertMask.capture = true)
    ∧ (byte 11 / 4 = 1 ↔ s.link.alertMask.commit = true))

/-- READ_FAULT and READ_CAPTURE remove the oldest record and return it; an empty queue is answered EMPTY and nothing else changes. The eleven
bytes of a fault record: kind; presence of port, bank and region index; port and tag; address; bank and region index; cycle count;
position; an absent field is 0. The four bytes of a capture record: cycle count; position; sync state and source. -/
def Obligations.RecordsArePopped : Prop :=
  (∀ (s : State) (check : Byte),
    let empty : State := { s with link := { s.link with receiver := .replying [0x05, checkByte [0x05]] } }
    (s.Receives [0x02] check →
      (s.link.faults = [] → exec (.readFault check) s = .next empty)
      ∧ ∀ r rest, s.link.faults = r :: rest → (faultImage r).length = 11 ∧ exec (.readFault check) s = .next { s with
          link := { s.link with
            faults := rest, receiver := .replying (0x00 :: faultImage r ++ [checkByte (0x00 :: faultImage r)]) } })
    ∧ (s.Receives [0x03] check →
      (s.sync.captures = [] → exec (.readCapture check) s = .next empty)
      ∧ ∀ r rest, s.sync.captures = r :: rest → (captureImage r).length = 4 ∧ exec (.readCapture check) s = .next { s with
          sync := { s.sync with captures := rest }
          link := { s.link with
            receiver := .replying (0x00 :: captureImage r ++ [checkByte (0x00 :: captureImage r)]) } }))
  ∧ (∀ r : FaultRecord,
    let byte := fun k : Nat => ((faultImage r).getD k 0).toNat
    byte 0 = (match r.kind with
      | .denied => 1
      | .range => 2
      | .malformed => 3
      | .noLink => 4
      | .timeout => 5
      | .dataFault => 6
      | .recovered => 7
      | .doubleFault => 8
      | .recoveryDropped => 9
      | .syncSlip => 10
      | .syncLost => 11)
    ∧ byte 1 = (if r.port = none then 0 else 1) + (if r.bank = none then 0 else 2) + (if r.region = none then 0 else 4)
    ∧ byte 2 = 16 * (match r.port with | some n => n.val | none => 0) + (match r.tag with | some t => t.toNat | none => 0)
    ∧ 0x1000000 * byte 3 + 0x10000 * byte 4 + 256 * byte 5 + byte 6 = (match r.address with | some a => a.toNat | none => 0)
    ∧ byte 7 = 16 * (match r.bank with | some b => rowNumber b | none => 0) + (match r.region with | some i => i.val | none => 0)
    ∧ 256 * byte 8 + byte 9 = r.cycleCount.toNat ∧ byte 10 = r.position % 256)
  ∧ ∀ r : CaptureRecord,
    let byte := fun k : Nat => ((captureImage r).getD k 0).toNat
    256 * byte 0 + byte 1 = r.cycleCount.toNat ∧ byte 2 = r.position % 256
    ∧ byte 3 = (match r.sync with
      | .free => 0
      | .seeking => 1
      | .locked => 2
      | .lost => 3) + (match r.source with
      | .strobe => 0
      | .command => 128)

/-- SET_ALERT_MASK and SET_STROBE write their setting and nothing else; the ALERT line follows the causes and the mask. -/
def Obligations.SettingsAndAlert : Prop :=
  ∀ (s : State) (check : Byte),
    (∀ mask : Byte, mask.toNat < 8 → s.Receives [0x30, mask] check → exec (.setAlertMask mask check) s = .next { s with
      link := { s.link with
        alertMask := ⟨mask.getLsbD 0, mask.getLsbD 1, mask.getLsbD 2⟩, receiver := .replying [0x00, checkByte [0x00]] } })
    ∧ (∀ setting : Byte, setting.toNat < 2 → s.Receives [0x31, setting] check → exec (.setStrobe setting check) s = .next { s with
      link := { s.link with strobeCapture := decide (setting = 1), receiver := .replying [0x00, checkByte [0x00]] } })
    ∧ (s.alert = true ↔ s.scheduler.timer ≠ .stopped
      ∧ ((s.link.faults ≠ [] ∧ s.link.alertMask.fault = true) ∨ (s.sync.captures ≠ [] ∧ s.link.alertMask.capture = true)
        ∨ (s.commit.record.unreported = true ∧ s.link.alertMask.commit = true)))

/-- TRAFFIC_RESET, with no slot about to start: queues and lists emptied, RECOVERY-READs not being performed removed (their places held as
freed until the next slot start), a pending commit ended
ABORTED-BY-RESET, a forced boundary due; fault queue, settings, plans, memory and operations in progress are as they were.
Between a slot end and the next slot start, the slot start is taken first (log entry 5). -/
def Obligations.TrafficReset : Prop :=
  (∀ (s : State) (check : Byte), s.Receives [0x3C] check → s.scheduler.timer ≠ .starting →
    let removed := fun e : BacklogEntry => match e.work with
      | .secondaryWrite _ => false
      | .recoveryRead _ _ => !e.performing
    exec (.trafficReset check) s = .next { s with
      scheduler := { s.scheduler with forcedDue := true }
      queues := ⟨[], [], [], []⟩
      ports := s.ports.map fun p => { p with completions := [] }
      mirrors := s.mirrors.map fun l => { l with
        entries := l.entries.filter fun e => !removed e
        freed := l.freed + (l.entries.filter removed).length }
      commit := if s.commit.state = .none then s.commit else
        { s.commit with state := .none, record := ⟨some (.abortedByReset, s.scheduler.cycleCount), true⟩ }
      link := { s.link with receiver := .replying [0x00, checkByte [0x00]] } })
  ∧ ∀ (s u : State) (check : Byte), s.Receives [0x3C] check → exec .slotStart s = .next u →
      exec (.trafficReset check) s = exec (.trafficReset check) u

/-! ### Memory -/

/-- MEMORY_DEVICE_CHANGE: the byte takes the value and is parity-faulty; every other byte, and everything else, is unchanged. At an address that
no memory has it stops with the fault memoryAbsent (log entry 15). -/
def Obligations.DeviceChangeSpoilsOneByte : Prop :=
  (∀ (s : State) (a : Address) (v : Byte), a.toNat < 0x8000000 → ∃ m : Memory,
    exec (.memoryDeviceChange a v) s = .next { s with memory := m }
    ∧ m.byteAt a.toNat = v ∧ m.faultyAt a.toNat = true
    ∧ ∀ x : Nat, x ≠ a.toNat → m.byteAt x = s.memory.byteAt x ∧ m.faultyAt x = s.memory.faultyAt x)
  ∧ ∀ (s : State) (a : Address) (v : Byte), 0x8000000 ≤ a.toNat →
      exec (.memoryDeviceChange a v) s = .fault (.memoryAbsent a)

/-- Memory changes only at slot ends and by the device: no other command, and no reset, changes a byte or its parity state. -/
def Obligations.OnlySlotEndsWriteMemory : Prop :=
  ∀ (c : Instr) (s t : State), s.PairsHold → exec c s = .next t → t.memory ≠ s.memory →
    (∃ check, c = .slotEnd check) ∨ (∃ check, c = .truncation check) ∨ c = .forcedBoundary ∨ (∃ b, c = .writeComplete b)
    ∨ (∃ b, c = .atomicPairEnd b) ∨ (∃ b, c = .secondaryWriteComplete b) ∨ ∃ a v, c = .memoryDeviceChange a v

/-! ### Invariants of every step -/

/-- Memory keeps its canonical form. -/
def Obligations.MemoryStaysCanonical : Prop :=
  ∀ s t : State, s.MemoryCanonical → step s = .next t → t.MemoryCanonical

/-- The ACTIVE plan satisfies every validation check at all times, and so does the STAGED plan while a commit is pending. -/
def Obligations.PlansStayValid : Prop :=
  ∀ s t : State, s.PlansValid → step s = .next t → t.PlansValid

/-- Queue entries and PENDING completion entries stay tied one to one, in one order, under fresh references. -/
def Obligations.QueuesStayTied : Prop :=
  ∀ s t : State, s.Tied → s.RefsFresh → step s = .next t → t.Tied ∧ t.RefsFresh

/-- The whole invariant is kept by every step. It ties the lists of a port to each other, every granted entry to what its bank performs and
back, every RECOVERING entry to its one RECOVERY-READ at the partner bank, every mark of a backlog entry to the operation in progress, every
pair to the grid, and an asserted PRSTn line to empty lists, beside the capacities, reservations, plans, counters, sync state and memory. -/
def Obligations.InvariantIsKept : Prop :=
  ∀ s t : State, s.Inv → step s = .next t → t.Inv

end
end

