-- ==== Sys2Proof/Laws/State.lean ====
section
/-! SUPPORT. What each update of one part of the state leaves in every field, by rfl; reading back a table with one value for each port or
each bank. -/

namespace Sys2Proof.Machine

section
variable {α : Type}

@[simp] theorem PerPort.get_set_self (v : PerPort α) (n : PortId) (x : α) : (v.set n x).get n = x := by
  fin_cases n <;> rfl

theorem PerPort.get_set_of_ne (v : PerPort α) {n m : PortId} (h : m ≠ n) (x : α) : (v.set n x).get m = v.get m := by
  fin_cases n <;> fin_cases m <;> first | rfl | exact absurd rfl h

theorem PerPort.get_set (v : PerPort α) (n m : PortId) (x : α) : (v.set n x).get m = if m = n then x else v.get m := by
  split
  · rename_i h; rw [h, PerPort.get_set_self]
  · rename_i h; exact PerPort.get_set_of_ne v h x

@[simp] theorem PerPort.set_get_self (v : PerPort α) (n : PortId) : v.set n (v.get n) = v := by
  fin_cases n <;> rfl

@[simp] theorem PerPort.set_set (v : PerPort α) (n : PortId) (x y : α) : (v.set n x).set n y = v.set n y := by
  fin_cases n <;> rfl

@[simp] theorem PerPort.get_map {β : Type} (f : α → β) (v : PerPort α) (n : PortId) : (v.map f).get n = f (v.get n) := by
  fin_cases n <;> rfl

@[simp] theorem PerPort.get_mapPort {β : Type} (f : PortId → α → β) (v : PerPort α) (n : PortId) :
    (v.mapPort f).get n = f n (v.get n) := by
  fin_cases n <;> rfl

theorem PerPort.ext_get {v w : PerPort α} (h : ∀ n, v.get n = w.get n) : v = w := by
  have h0 := h 0
  have h1 := h 1
  have h2 := h 2
  have h3 := h 3
  cases v
  cases w
  simp_all [PerPort.get]

@[simp] theorem PerBank.get_set_self (v : PerBank α) (b : Bank) (x : α) : (v.set b x).get b = x := by
  cases b <;> rfl

theorem PerBank.get_set_of_ne (v : PerBank α) {b c : Bank} (h : c ≠ b) (x : α) : (v.set b x).get c = v.get c := by
  cases b <;> cases c <;> first | rfl | exact absurd rfl h

theorem PerBank.get_set (v : PerBank α) (b c : Bank) (x : α) : (v.set b x).get c = if c = b then x else v.get c := by
  split
  · rename_i h; rw [h, PerBank.get_set_self]
  · rename_i h; exact PerBank.get_set_of_ne v h x

@[simp] theorem PerBank.set_get_self (v : PerBank α) (b : Bank) : v.set b (v.get b) = v := by
  cases b <;> rfl

@[simp] theorem PerBank.set_set (v : PerBank α) (b : Bank) (x y : α) : (v.set b x).set b y = v.set b y := by
  cases b <;> rfl

@[simp] theorem PerBank.get_map {β : Type} (f : α → β) (v : PerBank α) (b : Bank) : (v.map f).get b = f (v.get b) := by
  cases b <;> rfl

@[simp] theorem PerBank.get_mapBank {β : Type} (f : Bank → α → β) (v : PerBank α) (b : Bank) :
    (v.mapBank f).get b = f b (v.get b) := by
  cases b <;> rfl

theorem PerBank.ext_get {v w : PerBank α} (h : ∀ b, v.get b = w.get b) : v = w := by
  have h0 := h .lc0
  have h1 := h .lc1
  have h2 := h .uc0
  have h3 := h .uc1
  cases v
  cases w
  simp_all [PerBank.get]

end

@[simp] theorem mem_allBanks (b : Bank) : b ∈ allBanks := by
  cases b <;> decide

@[simp] theorem mem_allPorts (n : PortId) : n ∈ allPorts := by
  fin_cases n <;> decide

section
variable (s : State)

@[simp] theorem State.setQueue_scheduler (n : PortId) (q : List QueueEntry) : (s.setQueue n q).scheduler = s.scheduler := rfl
@[simp] theorem State.setQueue_queues (n : PortId) (q : List QueueEntry) : (s.setQueue n q).queues = s.queues.set n q := rfl
@[simp] theorem State.setQueue_ports (n : PortId) (q : List QueueEntry) : (s.setQueue n q).ports = s.ports := rfl
@[simp] theorem State.setQueue_mirrors (n : PortId) (q : List QueueEntry) : (s.setQueue n q).mirrors = s.mirrors := rfl
@[simp] theorem State.setQueue_banks (n : PortId) (q : List QueueEntry) : (s.setQueue n q).banks = s.banks := rfl
@[simp] theorem State.setQueue_commit (n : PortId) (q : List QueueEntry) : (s.setQueue n q).commit = s.commit := rfl
@[simp] theorem State.setQueue_sync (n : PortId) (q : List QueueEntry) : (s.setQueue n q).sync = s.sync := rfl
@[simp] theorem State.setQueue_link (n : PortId) (q : List QueueEntry) : (s.setQueue n q).link = s.link := rfl
@[simp] theorem State.setQueue_memory (n : PortId) (q : List QueueEntry) : (s.setQueue n q).memory = s.memory := rfl
@[simp] theorem State.setQueue_nextRef (n : PortId) (q : List QueueEntry) : (s.setQueue n q).nextRef = s.nextRef := rfl
@[simp] theorem State.setQueue_pending (n : PortId) (q : List QueueEntry) : (s.setQueue n q).pending = s.pending := rfl

@[simp] theorem State.setCompletions_scheduler (n : PortId) (l : List CompletionEntry) : (s.setCompletions n l).scheduler = s.scheduler := rfl
@[simp] theorem State.setCompletions_queues (n : PortId) (l : List CompletionEntry) : (s.setCompletions n l).queues = s.queues := rfl
@[simp] theorem State.setCompletions_ports (n : PortId) (l : List CompletionEntry) : (s.setCompletions n l).ports = s.ports.set n { s.ports.get n with completions := l } := rfl
@[simp] theorem State.setCompletions_mirrors (n : PortId) (l : List CompletionEntry) : (s.setCompletions n l).mirrors = s.mirrors := rfl
@[simp] theorem State.setCompletions_banks (n : PortId) (l : List CompletionEntry) : (s.setCompletions n l).banks = s.banks := rfl
@[simp] theorem State.setCompletions_commit (n : PortId) (l : List CompletionEntry) : (s.setCompletions n l).commit = s.commit := rfl
@[simp] theorem State.setCompletions_sync (n : PortId) (l : List CompletionEntry) : (s.setCompletions n l).sync = s.sync := rfl
@[simp] theorem State.setCompletions_link (n : PortId) (l : List CompletionEntry) : (s.setCompletions n l).link = s.link := rfl
@[simp] theorem State.setCompletions_memory (n : PortId) (l : List CompletionEntry) : (s.setCompletions n l).memory = s.memory := rfl
@[simp] theorem State.setCompletions_nextRef (n : PortId) (l : List CompletionEntry) : (s.setCompletions n l).nextRef = s.nextRef := rfl
@[simp] theorem State.setCompletions_pending (n : PortId) (l : List CompletionEntry) : (s.setCompletions n l).pending = s.pending := rfl

@[simp] theorem State.setResetLine_scheduler (n : PortId) (a : Bool) : (s.setResetLine n a).scheduler = s.scheduler := rfl
@[simp] theorem State.setResetLine_queues (n : PortId) (a : Bool) : (s.setResetLine n a).queues = s.queues := rfl
@[simp] theorem State.setResetLine_ports (n : PortId) (a : Bool) : (s.setResetLine n a).ports = s.ports.set n { s.ports.get n with resetLine := a } := rfl
@[simp] theorem State.setResetLine_mirrors (n : PortId) (a : Bool) : (s.setResetLine n a).mirrors = s.mirrors := rfl
@[simp] theorem State.setResetLine_banks (n : PortId) (a : Bool) : (s.setResetLine n a).banks = s.banks := rfl
@[simp] theorem State.setResetLine_commit (n : PortId) (a : Bool) : (s.setResetLine n a).commit = s.commit := rfl
@[simp] theorem State.setResetLine_sync (n : PortId) (a : Bool) : (s.setResetLine n a).sync = s.sync := rfl
@[simp] theorem State.setResetLine_link (n : PortId) (a : Bool) : (s.setResetLine n a).link = s.link := rfl
@[simp] theorem State.setResetLine_memory (n : PortId) (a : Bool) : (s.setResetLine n a).memory = s.memory := rfl
@[simp] theorem State.setResetLine_nextRef (n : PortId) (a : Bool) : (s.setResetLine n a).nextRef = s.nextRef := rfl
@[simp] theorem State.setResetLine_pending (n : PortId) (a : Bool) : (s.setResetLine n a).pending = s.pending := rfl

@[simp] theorem State.setBacklog_scheduler (b : Bank) (l : Backlog) : (s.setBacklog b l).scheduler = s.scheduler := rfl
@[simp] theorem State.setBacklog_queues (b : Bank) (l : Backlog) : (s.setBacklog b l).queues = s.queues := rfl
@[simp] theorem State.setBacklog_ports (b : Bank) (l : Backlog) : (s.setBacklog b l).ports = s.ports := rfl
@[simp] theorem State.setBacklog_mirrors (b : Bank) (l : Backlog) : (s.setBacklog b l).mirrors = s.mirrors.set b l := rfl
@[simp] theorem State.setBacklog_banks (b : Bank) (l : Backlog) : (s.setBacklog b l).banks = s.banks := rfl
@[simp] theorem State.setBacklog_commit (b : Bank) (l : Backlog) : (s.setBacklog b l).commit = s.commit := rfl
@[simp] theorem State.setBacklog_sync (b : Bank) (l : Backlog) : (s.setBacklog b l).sync = s.sync := rfl
@[simp] theorem State.setBacklog_link (b : Bank) (l : Backlog) : (s.setBacklog b l).link = s.link := rfl
@[simp] theorem State.setBacklog_memory (b : Bank) (l : Backlog) : (s.setBacklog b l).memory = s.memory := rfl
@[simp] theorem State.setBacklog_nextRef (b : Bank) (l : Backlog) : (s.setBacklog b l).nextRef = s.nextRef := rfl
@[simp] theorem State.setBacklog_pending (b : Bank) (l : Backlog) : (s.setBacklog b l).pending = s.pending := rfl

@[simp] theorem State.setSequencer_scheduler (b : Bank) (q : Sequencer) : (s.setSequencer b q).scheduler = s.scheduler := rfl
@[simp] theorem State.setSequencer_queues (b : Bank) (q : Sequencer) : (s.setSequencer b q).queues = s.queues := rfl
@[simp] theorem State.setSequencer_ports (b : Bank) (q : Sequencer) : (s.setSequencer b q).ports = s.ports := rfl
@[simp] theorem State.setSequencer_mirrors (b : Bank) (q : Sequencer) : (s.setSequencer b q).mirrors = s.mirrors := rfl
@[simp] theorem State.setSequencer_banks (b : Bank) (q : Sequencer) : (s.setSequencer b q).banks = s.banks.set b q := rfl
@[simp] theorem State.setSequencer_commit (b : Bank) (q : Sequencer) : (s.setSequencer b q).commit = s.commit := rfl
@[simp] theorem State.setSequencer_sync (b : Bank) (q : Sequencer) : (s.setSequencer b q).sync = s.sync := rfl
@[simp] theorem State.setSequencer_link (b : Bank) (q : Sequencer) : (s.setSequencer b q).link = s.link := rfl
@[simp] theorem State.setSequencer_memory (b : Bank) (q : Sequencer) : (s.setSequencer b q).memory = s.memory := rfl
@[simp] theorem State.setSequencer_nextRef (b : Bank) (q : Sequencer) : (s.setSequencer b q).nextRef = s.nextRef := rfl
@[simp] theorem State.setSequencer_pending (b : Bank) (q : Sequencer) : (s.setSequencer b q).pending = s.pending := rfl

@[simp] theorem State.setScheduler_scheduler (x : Scheduler) : (s.setScheduler x).scheduler = x := rfl
@[simp] theorem State.setScheduler_queues (x : Scheduler) : (s.setScheduler x).queues = s.queues := rfl
@[simp] theorem State.setScheduler_ports (x : Scheduler) : (s.setScheduler x).ports = s.ports := rfl
@[simp] theorem State.setScheduler_mirrors (x : Scheduler) : (s.setScheduler x).mirrors = s.mirrors := rfl
@[simp] theorem State.setScheduler_banks (x : Scheduler) : (s.setScheduler x).banks = s.banks := rfl
@[simp] theorem State.setScheduler_commit (x : Scheduler) : (s.setScheduler x).commit = s.commit := rfl
@[simp] theorem State.setScheduler_sync (x : Scheduler) : (s.setScheduler x).sync = s.sync := rfl
@[simp] theorem State.setScheduler_link (x : Scheduler) : (s.setScheduler x).link = s.link := rfl
@[simp] theorem State.setScheduler_memory (x : Scheduler) : (s.setScheduler x).memory = s.memory := rfl
@[simp] theorem State.setScheduler_nextRef (x : Scheduler) : (s.setScheduler x).nextRef = s.nextRef := rfl
@[simp] theorem State.setScheduler_pending (x : Scheduler) : (s.setScheduler x).pending = s.pending := rfl

@[simp] theorem State.setCommit_scheduler (x : CommitController) : (s.setCommit x).scheduler = s.scheduler := rfl
@[simp] theorem State.setCommit_queues (x : CommitController) : (s.setCommit x).queues = s.queues := rfl
@[simp] theorem State.setCommit_ports (x : CommitController) : (s.setCommit x).ports = s.ports := rfl
@[simp] theorem State.setCommit_mirrors (x : CommitController) : (s.setCommit x).mirrors = s.mirrors := rfl
@[simp] theorem State.setCommit_banks (x : CommitController) : (s.setCommit x).banks = s.banks := rfl
@[simp] theorem State.setCommit_commit (x : CommitController) : (s.setCommit x).commit = x := rfl
@[simp] theorem State.setCommit_sync (x : CommitController) : (s.setCommit x).sync = s.sync := rfl
@[simp] theorem State.setCommit_link (x : CommitController) : (s.setCommit x).link = s.link := rfl
@[simp] theorem State.setCommit_memory (x : CommitController) : (s.setCommit x).memory = s.memory := rfl
@[simp] theorem State.setCommit_nextRef (x : CommitController) : (s.setCommit x).nextRef = s.nextRef := rfl
@[simp] theorem State.setCommit_pending (x : CommitController) : (s.setCommit x).pending = s.pending := rfl

@[simp] theorem State.setSync_scheduler (x : SyncUnit) : (s.setSync x).scheduler = s.scheduler := rfl
@[simp] theorem State.setSync_queues (x : SyncUnit) : (s.setSync x).queues = s.queues := rfl
@[simp] theorem State.setSync_ports (x : SyncUnit) : (s.setSync x).ports = s.ports := rfl
@[simp] theorem State.setSync_mirrors (x : SyncUnit) : (s.setSync x).mirrors = s.mirrors := rfl
@[simp] theorem State.setSync_banks (x : SyncUnit) : (s.setSync x).banks = s.banks := rfl
@[simp] theorem State.setSync_commit (x : SyncUnit) : (s.setSync x).commit = s.commit := rfl
@[simp] theorem State.setSync_sync (x : SyncUnit) : (s.setSync x).sync = x := rfl
@[simp] theorem State.setSync_link (x : SyncUnit) : (s.setSync x).link = s.link := rfl
@[simp] theorem State.setSync_memory (x : SyncUnit) : (s.setSync x).memory = s.memory := rfl
@[simp] theorem State.setSync_nextRef (x : SyncUnit) : (s.setSync x).nextRef = s.nextRef := rfl
@[simp] theorem State.setSync_pending (x : SyncUnit) : (s.setSync x).pending = s.pending := rfl

@[simp] theorem State.setLink_scheduler (x : LinkController) : (s.setLink x).scheduler = s.scheduler := rfl
@[simp] theorem State.setLink_queues (x : LinkController) : (s.setLink x).queues = s.queues := rfl
@[simp] theorem State.setLink_ports (x : LinkController) : (s.setLink x).ports = s.ports := rfl
@[simp] theorem State.setLink_mirrors (x : LinkController) : (s.setLink x).mirrors = s.mirrors := rfl
@[simp] theorem State.setLink_banks (x : LinkController) : (s.setLink x).banks = s.banks := rfl
@[simp] theorem State.setLink_commit (x : LinkController) : (s.setLink x).commit = s.commit := rfl
@[simp] theorem State.setLink_sync (x : LinkController) : (s.setLink x).sync = s.sync := rfl
@[simp] theorem State.setLink_link (x : LinkController) : (s.setLink x).link = x := rfl
@[simp] theorem State.setLink_memory (x : LinkController) : (s.setLink x).memory = s.memory := rfl
@[simp] theorem State.setLink_nextRef (x : LinkController) : (s.setLink x).nextRef = s.nextRef := rfl
@[simp] theorem State.setLink_pending (x : LinkController) : (s.setLink x).pending = s.pending := rfl

@[simp] theorem State.setMemory_scheduler (m : Memory) : (s.setMemory m).scheduler = s.scheduler := rfl
@[simp] theorem State.setMemory_queues (m : Memory) : (s.setMemory m).queues = s.queues := rfl
@[simp] theorem State.setMemory_ports (m : Memory) : (s.setMemory m).ports = s.ports := rfl
@[simp] theorem State.setMemory_mirrors (m : Memory) : (s.setMemory m).mirrors = s.mirrors := rfl
@[simp] theorem State.setMemory_banks (m : Memory) : (s.setMemory m).banks = s.banks := rfl
@[simp] theorem State.setMemory_commit (m : Memory) : (s.setMemory m).commit = s.commit := rfl
@[simp] theorem State.setMemory_sync (m : Memory) : (s.setMemory m).sync = s.sync := rfl
@[simp] theorem State.setMemory_link (m : Memory) : (s.setMemory m).link = s.link := rfl
@[simp] theorem State.setMemory_memory (m : Memory) : (s.setMemory m).memory = m := rfl
@[simp] theorem State.setMemory_nextRef (m : Memory) : (s.setMemory m).nextRef = s.nextRef := rfl
@[simp] theorem State.setMemory_pending (m : Memory) : (s.setMemory m).pending = s.pending := rfl

end

end Sys2Proof.Machine
end

