-- ==== Sys2Proof/Laws/Ops.lean ====
section
/-! SUPPORT. What each shared operation does, said once: the state it leaves as one record update of the state before, so that every field not
named is unchanged. -/

namespace Sys2Proof.Machine

/-! ### Records -/

theorem LinkController.report_of_room {l : LinkController} (r : FaultRecord) (h : l.faults.length < Config.faultCapacity) :
    l.report r = { l with faults := l.faults ++ [r] } := if_pos h

theorem LinkController.report_of_full {l : LinkController} (r : FaultRecord) (h : Config.faultCapacity ≤ l.faults.length) :
    l.report r = { l with faultOverflow := true } := if_neg (Nat.not_lt.mpr h)

theorem LinkController.report_receiver (l : LinkController) (r : FaultRecord) : (l.report r).receiver = l.receiver := by
  unfold LinkController.report; split <;> rfl

theorem LinkController.report_selectActive (l : LinkController) (r : FaultRecord) :
    (l.report r).selectActive = l.selectActive := by
  unfold LinkController.report; split <;> rfl

theorem LinkController.report_alertMask (l : LinkController) (r : FaultRecord) : (l.report r).alertMask = l.alertMask := by
  unfold LinkController.report; split <;> rfl

theorem LinkController.report_strobeCapture (l : LinkController) (r : FaultRecord) :
    (l.report r).strobeCapture = l.strobeCapture := by
  unfold LinkController.report; split <;> rfl

theorem LinkController.length_report {l : LinkController} (r : FaultRecord) (h : l.faults.length ≤ Config.faultCapacity) :
    (l.report r).faults.length ≤ Config.faultCapacity := by
  unfold LinkController.report
  split
  · simp only [List.length_append, List.length_cons, List.length_nil]; omega
  · exact h

theorem SyncUnit.capture_of_room {u : SyncUnit} (r : CaptureRecord) (h : u.captures.length < Config.captureCapacity) :
    u.capture r = { u with captures := u.captures ++ [r] } := if_pos h

theorem SyncUnit.capture_of_full {u : SyncUnit} (r : CaptureRecord) (h : Config.captureCapacity ≤ u.captures.length) :
    u.capture r = { u with captureOverflow := true } := if_neg (Nat.not_lt.mpr h)

section
variable (s : State)

theorem State.report_eq (r : FaultRecord) : s.report r = { s with link := s.link.report r } := rfl

theorem State.reportEntry_eq (kind : FaultKind) (n : PortId) (e : QueueEntry) (position : Nat) :
    s.reportEntry kind n e position = { s with
      link := s.link.report
          ⟨kind, some n, s.tagOf n e.ref, some e.address, some e.bank, none, s.scheduler.cycleCount, position⟩ } := rfl

theorem State.capture_eq (source : CaptureSource) :
    s.capture source = { s with
      sync := s.sync.capture ⟨s.scheduler.cycleCount, s.scheduler.position, s.sync.state, source⟩ } := rfl

/-! ### Entries -/

theorem State.removeEntry_eq (n : PortId) (ref : Nat) :
    s.removeEntry n ref = { s with queues := s.queues.set n ((s.queues.get n).filter fun e => !e.hasRef ref) } := rfl

theorem State.updateEntry_eq (n : PortId) (ref : Nat) (f : QueueEntry → QueueEntry) :
    s.updateEntry n ref f =
      { s with queues := s.queues.set n ((s.queues.get n).map fun e => if e.hasRef ref then f e else e) } := rfl

theorem State.completeRef_eq (n : PortId) (ref : Nat) (r : CompletionResult) :
    s.completeRef n ref r = { s with
      ports := s.ports.set n
          { s.ports.get n with completions := (s.ports.get n).completions.map fun c => c.finish ref r } } := rfl

theorem State.finishEntry_eq (n : PortId) (ref : Nat) (r : CompletionResult) :
    s.finishEntry n ref r = { s with
      queues := s.queues.set n ((s.queues.get n).filter fun e => !e.hasRef ref)
      ports := s.ports.set n
        { s.ports.get n with completions := (s.ports.get n).completions.map fun c => c.finish ref r } } := rfl

theorem State.failEntry_eq (n : PortId) (e : QueueEntry) (status : ResponseStatus) (kind : FaultKind) (position : Nat) :
    s.failEntry n e status kind position = { s with
      queues := s.queues.set n ((s.queues.get n).filter fun x => !x.hasRef e.ref)
      ports := s.ports.set n
        { s.ports.get n with completions := (s.ports.get n).completions.map fun c => c.finish e.ref (bareResult status) }
      link := s.link.report
        ⟨kind, some n, s.tagOf n e.ref, some e.address, some e.bank, none, s.scheduler.cycleCount, position⟩ } := rfl

theorem State.addCompletion_eq (n : PortId) (m : RequestMessage) (c : CompletionState) :
    s.addCompletion n m c = { s with
      ports := s.ports.set n
        { s.ports.get n with completions := (s.ports.get n).completions ++ [⟨s.nextRef, m.tag, m.kind, c⟩] }
      nextRef := s.nextRef + 1 } := rfl

/-! ### Backlogs and sequencers -/

theorem State.reserve_eq (b : Bank) : s.reserve b = { s with
      mirrors := s.mirrors.set b
          { s.mirrors.get b with reservations := (s.mirrors.get b).reservations + 1 } } := rfl

theorem State.release_eq (b : Bank) : s.release b = { s with
      mirrors := s.mirrors.set b
          { s.mirrors.get b with
        reservations := (s.mirrors.get b).reservations - 1
        freed := (s.mirrors.get b).freed + 1 } } := rfl

theorem State.appendSecondary_eq (b : Bank) (address : Address) (beats : List WriteBeat) :
    s.appendSecondary b address beats = { s with
      mirrors := s.mirrors.set (partnerBank b)
          { s.mirrors.get (partnerBank b) with
        entries := (s.mirrors.get (partnerBank b)).entries
          ++ [⟨.secondaryWrite beats, partnerAddress s.commit.active.geometry address, beats.length, false⟩]
        reservations := (s.mirrors.get (partnerBank b)).reservations - 1 } } := rfl

theorem State.appendRecovery_eq (b : Bank) (address : Address) (length : Nat) (n : PortId) (ref : Nat) :
    s.appendRecovery b address length n ref = { s with
      mirrors := s.mirrors.set (partnerBank b)
          { s.mirrors.get (partnerBank b) with
        entries := (s.mirrors.get (partnerBank b)).entries
          ++ [⟨.recoveryRead n ref, partnerAddress s.commit.active.geometry address, length, false⟩] } } := rfl

theorem State.removePerformed_eq (b : Bank) : s.removePerformed b = { s with
      mirrors := s.mirrors.set b
          { s.mirrors.get b with entries := (s.mirrors.get b).entries.filter fun e => !e.performing } } := rfl

/-- A reset leaves the entries and the freed places of a backlog together as many as they were (R92). -/
theorem Backlog.dropRecoveries_places (l : Backlog) (n : Option PortId) :
    (l.dropRecoveries n).occupancy + (l.dropRecoveries n).freed = l.occupancy + l.freed := by
  have h : (l.entries.filter fun e => !e.recoveryOf n).length + (l.entries.filter fun e => e.recoveryOf n).length
      = l.entries.length := by
    induction l.entries with
    | nil => rfl
    | cons e rest ih => cases hr : e.recoveryOf n <;> simp [hr] at ih ⊢ <;> omega
  simp only [Backlog.occupancy, Backlog.dropRecoveries]
  omega

theorem State.openFreedPlaces_eq :
    s.openFreedPlaces = { s with mirrors := s.mirrors.map fun l => { l with freed := 0 } } := rfl

theorem State.clearOperation_eq (b : Bank) :
    s.clearOperation b = { s with banks := s.banks.set b { s.banks.get b with operation := none } } := rfl

theorem State.giveOperation_eq (b : Bank) (o : Operation) :
    s.giveOperation b o = { s with banks := s.banks.set b { s.banks.get b with operation := some o } } := rfl

/-! ### Commit and link -/

theorem State.recordOutcome_eq (o : CommitOutcome) :
    s.recordOutcome o = { s with commit := { s.commit with record := ⟨some (o, s.scheduler.cycleCount), true⟩ } } := rfl

theorem State.answer_eq (status : LinkStatus) (results : List Byte) :
    s.answer status results = { s with link := { s.link with receiver := .replying (replyBytes status results) } } := rfl

/-- A complete right frame: the command takes effect and its reply is fixed. -/
theorem State.takeFrame_of_right {frame : List Byte} {check : Byte} {effect : State → Effect}
    (h : s.link.receiver = .receiving) (hc : check = checkByte frame) :
    s.takeFrame frame check effect = (effect s).state.answer (effect s).status (effect s).results := by
  rw [State.takeFrame, if_pos h, if_pos hc.symm]

/-- A complete frame with a wrong check byte: CHECK-ERROR and nothing else. -/
theorem State.takeFrame_of_wrong {frame : List Byte} {check : Byte} {effect : State → Effect}
    (h : s.link.receiver = .receiving) (hc : check ≠ checkByte frame) :
    s.takeFrame frame check effect = s.answer .checkError [] := by
  rw [State.takeFrame, if_pos h, if_neg (Ne.symm hc)]

/-- A frame outside RECEIVING: nothing. -/
theorem State.takeFrame_of_not_receiving {frame : List Byte} {check : Byte} {effect : State → Effect}
    (h : s.link.receiver ≠ .receiving) : s.takeFrame frame check effect = s := by
  rw [State.takeFrame, if_neg h]

/-! ### What the last boundary owes -/

theorem State.loseLock_of_not_due (h : s.sync.lostDue = false) : s.loseLock = s := by
  simp [State.loseLock, h]

/-- Taking the loss of lock leaves none due. -/
@[simp] theorem State.lostDue_loseLock : s.loseLock.sync.lostDue = false := by
  unfold State.loseLock
  split
  · rfl
  · simp_all

/-- The loss of lock is taken once. -/
theorem State.loseLock_loseLock : s.loseLock.loseLock = s.loseLock := State.loseLock_of_not_due _ s.lostDue_loseLock

/-- Without a boundary reaction due, the commit controller does nothing. -/
theorem State.commitReaction_of_not_due (turns : List PortId) (h : s.commit.reactionDue = false) :
    s.commitReaction turns = s := by
  simp [State.commitReaction, State.swapDue, State.abandonDue, h]

/-- The traffic has not drained while a queue or a backlog holds an entry (R132). -/
theorem State.drained_eq_false_iff :
    s.drained = false ↔ (∃ n : PortId, s.queues.get n ≠ []) ∨ ∃ b : Bank, (s.mirrors.get b).entries ≠ [] := by
  have banks : ∀ f : Bank → Prop, (∃ b, f b) ↔ f .lc0 ∨ f .lc1 ∨ f .uc0 ∨ f .uc1 := fun f =>
    ⟨fun ⟨b, h⟩ => by cases b <;> simp_all, fun h => by rcases h with h | h | h | h <;> exact ⟨_, h⟩⟩
  have ports : ∀ f : PortId → Prop, (∃ n, f n) ↔ f 0 ∨ f 1 ∨ f 2 ∨ f 3 := fun f =>
    ⟨fun ⟨n, h⟩ => by fin_cases n <;> simp_all, fun h => by rcases h with h | h | h | h <;> exact ⟨_, h⟩⟩
  rw [banks, ports]
  simp only [State.drained, State.queuesEmpty, State.backlogsEmpty, allPorts, allBanks, List.all,
    Bool.and_eq_false_iff, List.isEmpty_eq_false_iff, Bool.and_true]

/-- With the check taken first, the boundary is the one with the check taken later, but for a check that ends no commit (log entry 4). -/
theorem State.markReaction_checkFirst : s.markReaction .checkFirst =
    if (s.markReaction .checkAfterExpiry).swapDue || (s.markReaction .checkAfterExpiry).abandonDue then
      s.markReaction .checkAfterExpiry
    else (s.markReaction .checkAfterExpiry).countDrain := rfl

/-- With nothing due from the last boundary, a slot start is the decisions of the banks. -/
theorem State.startSlot_of_nothing_due (hl : s.sync.lostDue = false) (h : s.commit.reactionDue = false) :
    s.startSlot = (allBanks.foldl State.decideBank s.openFreedPlaces).beginSlot := by
  rw [State.startSlot, State.loseLock_of_not_due s hl, State.commitReaction_of_not_due s [] h]

theorem State.oldestExpiring_eq_none (n : PortId) (h : ∀ e ∈ s.queues.get n, e.expiryDue = false) :
    s.oldestExpiring n = none := by
  simp only [State.oldestExpiring, List.find?_eq_none]
  intro e he
  simp [h e he]

theorem State.expirePort_of_none_due (n : PortId) (h : ∀ e ∈ s.queues.get n, e.expiryDue = false) :
    s.expirePort n = s := by
  have : (s.queues.get n).filter QueueEntry.expiryDue = [] := by
    rw [List.filter_eq_nil_iff]
    intro e he
    simp [h e he]
  rw [State.expirePort, this]
  rfl

/-- Expiries of ports with none due change nothing. -/
theorem State.expirePorts_of_none_due (turns : List PortId)
    (h : ∀ n ∈ turns, ∀ e ∈ s.queues.get n, e.expiryDue = false) : s.expirePorts turns = s := by
  have keep : ∀ (f : State → PortId → State) (l : List PortId), (∀ n ∈ l, f s n = s) → l.foldl f s = s := by
    intro f l hf
    induction l with
    | nil => rfl
    | cons n rest ih =>
      rw [List.foldl_cons, hf n List.mem_cons_self]
      exact ih fun m hm => hf m (List.mem_cons_of_mem _ hm)
  rw [State.expirePorts, keep _ turns fun n hn => by rw [State.expireOldest, s.oldestExpiring_eq_none n (h n hn)],
    keep _ turns fun n hn => s.expirePort_of_none_due n (h n hn)]

theorem State.expireAll_of_none_due (h : ∀ n : PortId, ∀ e ∈ s.queues.get n, e.expiryDue = false) : s.expireAll = s := by
  simp only [State.expireAll, allPorts, List.foldl, State.expirePort_of_none_due s _ (h _)]

/-- With nothing owed from the last boundary, taking what is owed changes nothing. -/
theorem State.settle_of_nothing_owed (hl : s.sync.lostDue = false)
    (h : ∀ n : PortId, ∀ e ∈ s.queues.get n, e.expiryDue = false) : s.settle = s := by
  rw [State.settle, State.loseLock_of_not_due s hl, State.expireAll_of_none_due s h]

/-- A bank without an operation and without a pair in its second slot hands nothing back. -/
theorem State.endBank_of_idle (b : Bank) (ho : (s.banks.get b).operation = none)
    (hp : (s.banks.get b).pairIn .second = none) : s.endBank b = s := by
  simp only [State.endBank, hp, ho]

theorem State.endBanks_of_idle
    (h : ∀ b ∈ allBanks, (s.banks.get b).operation = none ∧ (s.banks.get b).pairIn .second = none) : s.endBanks = s := by
  simp only [State.endBanks, allBanks, List.foldl,
    State.endBank_of_idle s _ (h _ (mem_allBanks _)).1 (h _ (mem_allBanks _)).2]

end

end Sys2Proof.Machine
end

