-- ==== Sys2Proof/Laws/Frame.lean ====
section
/-! SUPPORT. What the operations over many entries, ports or banks leave alone: one frame for each kind of operation, with its
composition, and the frame of each operation of that kind. -/

namespace Sys2Proof.Machine

/-- A fold of steps that each relate a state to the next relates the first to the last. -/
theorem foldl_of_step {α : Type} {R : State → State → Prop} (refl : ∀ s, R s s) (trans : ∀ {s t u}, R s t → R t u → R s u)
    {f : State → α → State} (step : ∀ s a, R s (f s a)) (l : List α) (s : State) : R s (l.foldl f s) := by
  induction l generalizing s with
  | nil => exact refl s
  | cons a rest ih => exact trans (step s a) (ih (f s a))

/-! ### Completions of requests -/

/-- Only queues, ports and the link have changed. -/
structure TrafficFrame (s t : State) : Prop where
  scheduler : t.scheduler = s.scheduler
  mirrors   : t.mirrors = s.mirrors
  banks     : t.banks = s.banks
  commit    : t.commit = s.commit
  sync      : t.sync = s.sync
  memory    : t.memory = s.memory
  nextRef   : t.nextRef = s.nextRef
  pending   : t.pending = s.pending

theorem TrafficFrame.refl (s : State) : TrafficFrame s s := ⟨rfl, rfl, rfl, rfl, rfl, rfl, rfl, rfl⟩

theorem TrafficFrame.trans {s t u : State} (h : TrafficFrame s t) (k : TrafficFrame t u) : TrafficFrame s u :=
  ⟨k.1.trans h.1, k.2.trans h.2, k.3.trans h.3, k.4.trans h.4, k.5.trans h.5, k.6.trans h.6, k.7.trans h.7, k.8.trans h.8⟩

theorem State.finishEntry_frame (s : State) (n : PortId) (ref : Nat) (r : CompletionResult) :
    TrafficFrame s (s.finishEntry n ref r) := ⟨rfl, rfl, rfl, rfl, rfl, rfl, rfl, rfl⟩

theorem State.failEntry_frame (s : State) (n : PortId) (e : QueueEntry) (status : ResponseStatus) (kind : FaultKind)
    (position : Nat) : TrafficFrame s (s.failEntry n e status kind position) := ⟨rfl, rfl, rfl, rfl, rfl, rfl, rfl, rfl⟩

theorem State.finishAccess_frame (s : State) (a : PortAccess) (r : CompletionResult) : TrafficFrame s (s.finishAccess a r) := by
  unfold State.finishAccess
  split
  · exact .refl s
  · exact s.finishEntry_frame _ _ _

theorem State.expireOldest_frame (s : State) (n : PortId) : TrafficFrame s (s.expireOldest n) := by
  unfold State.expireOldest
  split
  · exact s.failEntry_frame _ _ _ _ _
  · exact .refl s

theorem State.expirePort_frame (s : State) (n : PortId) : TrafficFrame s (s.expirePort n) :=
  foldl_of_step .refl .trans (fun t _ => t.expireOldest_frame n) _ s

theorem State.expirePorts_frame (s : State) (turns : List PortId) : TrafficFrame s (s.expirePorts turns) :=
  (foldl_of_step .refl .trans State.expireOldest_frame turns s).trans
    (foldl_of_step .refl .trans State.expirePort_frame turns _)

theorem State.expireAll_frame (s : State) : TrafficFrame s s.expireAll :=
  foldl_of_step .refl .trans State.expirePort_frame _ s

theorem State.completeNoLink_frame (s : State) (n : PortId) : TrafficFrame s (s.completeNoLink n) := by
  unfold State.completeNoLink
  split
  · exact s.failEntry_frame _ _ _ _ _
  · exact .refl s

theorem State.completeNoLinks_frame (s : State) (n : PortId) : TrafficFrame s (s.completeNoLinks n) :=
  foldl_of_step .refl .trans (fun t _ => t.completeNoLink_frame n) _ s

theorem State.noLinkCompletions_frame (s : State) (turns : List PortId) : TrafficFrame s (s.noLinkCompletions turns) :=
  (foldl_of_step .refl .trans State.completeNoLink_frame turns s).trans
    (foldl_of_step .refl .trans State.completeNoLinks_frame allPorts _)

/-! ### The settlement of what a boundary owes -/

/-- Only queues, ports, the link and the sync state, miss count and due loss have changed. -/
structure SettleFrame (s t : State) : Prop where
  scheduler : t.scheduler = s.scheduler
  mirrors   : t.mirrors = s.mirrors
  banks     : t.banks = s.banks
  commit    : t.commit = s.commit
  memory    : t.memory = s.memory
  nextRef   : t.nextRef = s.nextRef
  pending   : t.pending = s.pending
  captures  : t.sync.captures = s.sync.captures
  truncation : t.sync.truncationPending = s.sync.truncationPending
  pulseMark : t.sync.pulseMark = s.sync.pulseMark

theorem TrafficFrame.settle {s t : State} (h : TrafficFrame s t) : SettleFrame s t :=
  ⟨h.scheduler, h.mirrors, h.banks, h.commit, h.memory, h.nextRef, h.pending, by rw [h.sync], by rw [h.sync], by rw [h.sync]⟩

theorem SettleFrame.trans {s t u : State} (h : SettleFrame s t) (k : SettleFrame t u) : SettleFrame s u :=
  ⟨k.1.trans h.1, k.2.trans h.2, k.3.trans h.3, k.4.trans h.4, k.5.trans h.5, k.6.trans h.6, k.7.trans h.7, k.8.trans h.8,
    k.9.trans h.9, k.10.trans h.10⟩

theorem State.loseLock_frame (s : State) : SettleFrame s s.loseLock := by
  unfold State.loseLock
  split
  · exact ⟨rfl, rfl, rfl, rfl, rfl, rfl, rfl, rfl, rfl, rfl⟩
  · exact (TrafficFrame.refl s).settle

theorem State.settle_frame (s : State) : SettleFrame s s.settle := s.loseLock_frame.trans s.loseLock.expireAll_frame.settle

/-! ### Decisions of the banks at a slot start -/

/-- Only the OPEN pointers, the queues, the backlogs and the sequencers have changed. -/
structure DecisionFrame (s t : State) : Prop where
  scheduler : t.scheduler = { s.scheduler with pointers := t.scheduler.pointers }
  ports     : t.ports = s.ports
  commit    : t.commit = s.commit
  sync      : t.sync = s.sync
  link      : t.link = s.link
  memory    : t.memory = s.memory
  nextRef   : t.nextRef = s.nextRef
  pending   : t.pending = s.pending

theorem DecisionFrame.refl (s : State) : DecisionFrame s s := ⟨rfl, rfl, rfl, rfl, rfl, rfl, rfl, rfl⟩

theorem DecisionFrame.trans {s t u : State} (h : DecisionFrame s t) (k : DecisionFrame t u) : DecisionFrame s u :=
  ⟨by rw [k.1, h.1], k.2.trans h.2, k.3.trans h.3, k.4.trans h.4, k.5.trans h.5, k.6.trans h.6, k.7.trans h.7,
    k.8.trans h.8⟩

theorem State.grant_frame (s : State) (b : Bank) (n : PortId) (e : QueueEntry) : DecisionFrame s (s.grant b n e) := by
  unfold State.grant
  dsimp only
  split <;> exact ⟨rfl, rfl, rfl, rfl, rfl, rfl, rfl, rfl⟩

theorem State.serveBacklog_frame (s : State) (b : Bank) : DecisionFrame s (s.serveBacklog b) := by
  unfold State.serveBacklog
  split
  · exact ⟨rfl, rfl, rfl, rfl, rfl, rfl, rfl, rfl⟩
  · exact .refl s

theorem State.movePointer_frame (s : State) (b : Bank) (n : PortId) : DecisionFrame s (s.movePointer b n) :=
  ⟨rfl, rfl, rfl, rfl, rfl, rfl, rfl, rfl⟩

theorem State.portSlot_frame (s : State) (b : Bank) (n : PortId) : DecisionFrame s (s.portSlot b n) := by
  unfold State.portSlot
  split
  · exact s.grant_frame _ _ _
  · exact s.serveBacklog_frame b

theorem State.openSlot_frame (s : State) (b : Bank) : DecisionFrame s (s.openSlot b) := by
  unfold State.openSlot
  split
  · split
    · exact (s.grant_frame _ _ _).trans (State.movePointer_frame _ _ _)
    · exact s.serveBacklog_frame b
  · exact s.serveBacklog_frame b

theorem State.refreshSlot_frame (s : State) (b : Bank) : DecisionFrame s (s.refreshSlot b) := by
  unfold State.refreshSlot
  split
  · exact ⟨rfl, rfl, rfl, rfl, rfl, rfl, rfl, rfl⟩
  · exact .refl s

theorem State.codeSlot_frame (s : State) (b : Bank) : DecisionFrame s (s.codeSlot b) := by
  unfold State.codeSlot
  split
  · exact s.portSlot_frame _ _
  · exact s.openSlot_frame b
  · exact s.serveBacklog_frame b
  · exact s.refreshSlot_frame b
  · exact .refl s

theorem State.decideBank_frame (s : State) (b : Bank) : DecisionFrame s (s.decideBank b) := by
  unfold State.decideBank State.decideUsed
  split
  · split
    · exact ⟨rfl, rfl, rfl, rfl, rfl, rfl, rfl, rfl⟩
    · split
      · exact ⟨rfl, rfl, rfl, rfl, rfl, rfl, rfl, rfl⟩
      · exact s.codeSlot_frame b
  · exact .refl s

theorem State.decideBanks_frame (s : State) (l : List Bank) : DecisionFrame s (l.foldl State.decideBank s) :=
  foldl_of_step .refl .trans State.decideBank_frame l s

/-! ### Results at a slot end -/

/-- Only queues, ports, backlogs, sequencers, the link and memory have changed. -/
structure EndFrame (s t : State) : Prop where
  scheduler : t.scheduler = s.scheduler
  commit    : t.commit = s.commit
  sync      : t.sync = s.sync
  nextRef   : t.nextRef = s.nextRef
  pending   : t.pending = s.pending

theorem EndFrame.refl (s : State) : EndFrame s s := ⟨rfl, rfl, rfl, rfl, rfl⟩

theorem EndFrame.trans {s t u : State} (h : EndFrame s t) (k : EndFrame t u) : EndFrame s u :=
  ⟨k.1.trans h.1, k.2.trans h.2, k.3.trans h.3, k.4.trans h.4, k.5.trans h.5⟩

theorem TrafficFrame.results {s t : State} (h : TrafficFrame s t) : EndFrame s t := ⟨h.1, h.4, h.5, h.7, h.8⟩

theorem State.clearOperation_frame (s : State) (b : Bank) : EndFrame s (s.clearOperation b) := ⟨rfl, rfl, rfl, rfl, rfl⟩

theorem State.faultedRead_frame (s : State) (b : Bank) (a : PortAccess) (e : QueueEntry) : EndFrame s (s.faultedRead b a e) := by
  unfold State.faultedRead
  split
  · exact (s.failEntry_frame _ _ _ _ _).results
  · split
    · exact ⟨rfl, rfl, rfl, rfl, rfl⟩
    · exact (s.failEntry_frame _ _ _ _ _).results

theorem State.endRead_frame (s : State) (b : Bank) (a : PortAccess) : EndFrame s (s.endRead b a) := by
  unfold State.endRead
  dsimp only
  split
  · exact s.clearOperation_frame b
  · split
    · exact (s.clearOperation_frame b).trans (State.faultedRead_frame _ _ _ _)
    · exact (s.clearOperation_frame b).trans (State.finishEntry_frame _ _ _ _).results

theorem State.primaryWrite_frame (s : State) (b : Bank) (a : PortAccess) (beats : List WriteBeat) :
    EndFrame s (s.primaryWrite b a beats) := by
  unfold State.primaryWrite
  dsimp only
  split <;> exact ⟨rfl, rfl, rfl, rfl, rfl⟩

theorem State.endWrite_frame (s : State) (b : Bank) (a : PortAccess) (beats : List WriteBeat) :
    EndFrame s (s.endWrite b a beats) :=
  ((s.clearOperation_frame b).trans (State.primaryWrite_frame _ _ _ _)).trans (State.finishAccess_frame _ _ _).results

theorem State.reportFailedAtomic_frame (s : State) (a : PortAccess) (r : AtomicResult) :
    EndFrame s (s.reportFailedAtomic a r) := by
  unfold State.reportFailedAtomic
  split <;> exact ⟨rfl, rfl, rfl, rfl, rfl⟩

theorem State.endAtomicRead_frame (s : State) (b : Bank) (p : AtomicPair) : EndFrame s (s.endAtomicRead b p) := by
  have h : ∀ t : State, EndFrame t (t.updateEntry p.access.port p.access.ref fun e =>
    { e with atomicResult := some (s.atomicOutcome b p) }) := fun _ => ⟨rfl, rfl, rfl, rfl, rfl⟩
  have k : EndFrame s (s.setSequencer b
    { s.banks.get b with operation := none, pair := some { p with result := some (s.atomicOutcome b p) } }) :=
    ⟨rfl, rfl, rfl, rfl, rfl⟩
  exact (k.trans (State.reportFailedAtomic_frame _ _ _)).trans (h _)

theorem State.failedPairEnd_frame (s : State) (b : Bank) (a : PortAccess) : EndFrame s (s.failedPairEnd b a) := by
  unfold State.failedPairEnd
  split
  · have h : EndFrame s (s.release (partnerBank b)) := ⟨rfl, rfl, rfl, rfl, rfl⟩
    exact h.trans (State.finishAccess_frame _ _ _).results
  · exact (State.finishAccess_frame _ _ _).results

theorem State.endPair_frame (s : State) (b : Bank) (p : AtomicPair) : EndFrame s (s.endPair b p) := by
  have h : EndFrame s (s.setSequencer b { s.banks.get b with operation := none, pair := none }) := ⟨rfl, rfl, rfl, rfl, rfl⟩
  unfold State.endPair
  dsimp only
  split
  · exact (h.trans (State.primaryWrite_frame _ _ _ _)).trans (State.finishAccess_frame _ _ _).results
  · exact h.trans (State.failedPairEnd_frame _ _ _)
  · exact h.trans (State.failedPairEnd_frame _ _ _)

theorem State.endRecovery_frame (s : State) (b : Bank) (offset length : Nat) (n : PortId) (ref : Nat) :
    EndFrame s (s.endRecovery b offset length n ref) := by
  have h : EndFrame s ((s.clearOperation b).removePerformed b) := ⟨rfl, rfl, rfl, rfl, rfl⟩
  unfold State.endRecovery
  dsimp only
  split
  · exact h
  · split
    · exact h.trans (State.failEntry_frame _ _ _ _ _ _).results
    · exact ⟨rfl, rfl, rfl, rfl, rfl⟩

theorem State.endBank_frame (s : State) (b : Bank) : EndFrame s (s.endBank b) := by
  unfold State.endBank
  split
  · exact s.endPair_frame _ _
  · split
    · exact s.endRead_frame _ _
    · exact s.endWrite_frame _ _ _
    · split
      · exact s.endAtomicRead_frame _ _
      · exact s.clearOperation_frame b
    · exact s.clearOperation_frame b
    · exact ⟨rfl, rfl, rfl, rfl, rfl⟩
    · exact s.endRecovery_frame _ _ _ _ _
    · exact s.clearOperation_frame b
    · exact s.clearOperation_frame b
    · exact .refl s

theorem State.endBanks_frame (s : State) : EndFrame s s.endBanks := foldl_of_step .refl .trans State.endBank_frame _ s

/-! ### Memory, references and the queue of waiting commands -/

/-- Memory, the next reference and the queue of waiting commands are unchanged. -/
structure KeepFrame (s t : State) : Prop where
  memory  : t.memory = s.memory
  nextRef : t.nextRef = s.nextRef
  pending : t.pending = s.pending

theorem KeepFrame.refl (s : State) : KeepFrame s s := ⟨rfl, rfl, rfl⟩

theorem KeepFrame.trans {s t u : State} (h : KeepFrame s t) (k : KeepFrame t u) : KeepFrame s u :=
  ⟨k.1.trans h.1, k.2.trans h.2, k.3.trans h.3⟩

theorem TrafficFrame.keep {s t : State} (h : TrafficFrame s t) : KeepFrame s t := ⟨h.memory, h.nextRef, h.pending⟩

theorem SettleFrame.keep {s t : State} (h : SettleFrame s t) : KeepFrame s t := ⟨h.memory, h.nextRef, h.pending⟩

theorem DecisionFrame.keep {s t : State} (h : DecisionFrame s t) : KeepFrame s t := ⟨h.memory, h.nextRef, h.pending⟩

theorem State.swap_keep (s : State) (turns : List PortId) : KeepFrame s (s.swap turns) := by
  have h : KeepFrame s s.loseLock := s.loseLock_frame.keep
  unfold State.swap
  dsimp only
  split
  · exact ⟨h.memory, h.nextRef, h.pending⟩
  · refine KeepFrame.trans ?_ (State.noLinkCompletions_frame _ _).keep
    exact ⟨h.memory, h.nextRef, h.pending⟩

theorem State.commitReaction_keep (s : State) (turns : List PortId) : KeepFrame s (s.commitReaction turns) := by
  unfold State.commitReaction
  split
  · exact s.swap_keep turns
  · split
    · exact ⟨rfl, rfl, rfl⟩
    · split
      · exact ⟨rfl, rfl, rfl⟩
      · exact .refl s

theorem State.openFreedPlaces_keep (s : State) : KeepFrame s s.openFreedPlaces := ⟨rfl, rfl, rfl⟩

theorem State.startSlot_keep (s : State) : KeepFrame s s.startSlot :=
  (((s.loseLock_frame.keep.trans (State.commitReaction_keep _ [])).trans (State.openFreedPlaces_keep _)).trans
    (State.decideBanks_frame _ allBanks).keep).trans ⟨rfl, rfl, rfl⟩

theorem State.startIfDue_keep (s : State) : KeepFrame s s.startIfDue := by
  unfold State.startIfDue
  split
  · exact s.startSlot_keep
  · exact .refl s

theorem State.markReaction_keep (s : State) (check : DrainCheckOrder) : KeepFrame s (s.markReaction check) := by
  unfold State.markReaction
  dsimp only
  split
  · exact ⟨rfl, rfl, rfl⟩
  · split <;> exact ⟨rfl, rfl, rfl⟩

theorem State.cycleReactions_keep (s : State) (check : DrainCheckOrder) : KeepFrame s (s.cycleReactions check) := by
  refine KeepFrame.trans ?_ (State.markReaction_keep _ check)
  exact ⟨rfl, rfl, rfl⟩

theorem State.advance_keep (s : State) (check : DrainCheckOrder) : KeepFrame s (s.advance check) := by
  unfold State.advance
  split
  · exact ⟨rfl, rfl, rfl⟩
  · exact s.cycleReactions_keep check
  · refine KeepFrame.trans ?_ (State.cycleReactions_keep _ check)
    exact ⟨rfl, rfl, rfl⟩
  · exact ⟨rfl, rfl, rfl⟩

/-- A slot end changes memory by the results handed back alone. -/
theorem State.endSlot_memory (s : State) (check : DrainCheckOrder) : (s.endSlot check).memory = s.settle.endBanks.memory :=
  (State.advance_keep _ check).memory

theorem State.endSlot_nextRef (s : State) (check : DrainCheckOrder) : (s.endSlot check).nextRef = s.nextRef :=
  ((State.advance_keep _ check).nextRef.trans (State.endBanks_frame _).nextRef).trans s.settle_frame.nextRef

theorem State.endSlot_pending (s : State) (check : DrainCheckOrder) : (s.endSlot check).pending = s.pending :=
  ((State.advance_keep _ check).pending.trans (State.endBanks_frame _).pending).trans s.settle_frame.pending

theorem State.beforePulse_keep (s : State) : KeepFrame s s.beforePulse := by
  unfold State.beforePulse
  split
  · exact (s.commitReaction_keep []).trans (State.loseLock_frame _).keep
  · exact s.loseLock_frame.keep

theorem State.judgePulse_keep (s : State) : KeepFrame s s.judgePulse := by
  unfold State.judgePulse State.earlyPulse State.reportSlip
  split
  · exact .refl s
  · split
    · exact ⟨rfl, rfl, rfl⟩
    · split <;> exact ⟨rfl, rfl, rfl⟩

/-- A frame's effect keeps memory, references and the queue of waiting commands, and so does the command. -/
theorem State.takeFrame_keep {s : State} (frame : List Byte) (check : Byte) {effect : State → Effect}
    (h : KeepFrame s (effect s).state) : KeepFrame s (s.takeFrame frame check effect) := by
  unfold State.takeFrame
  split
  · split
    · exact ⟨h.memory, h.nextRef, h.pending⟩
    · exact ⟨rfl, rfl, rfl⟩
  · exact .refl s

end Sys2Proof.Machine
end

