-- ==== Sys2Proof/Laws/Memory.lean ====
section
/-! SUPPORT. What the memory operations do, byte by byte, and that each keeps the canonical form. -/

namespace Sys2Proof.Machine

/-! ### Cells and addresses -/

@[simp] theorem lookupCell_insertCell (a b : Nat) (v : Byte) (l : List Host.Cell) :
    lookupCell b (insertCell a v l) = if b = a then some v else lookupCell b l := by
  induction l with
  | nil => simp [insertCell, lookupCell, eq_comm]
  | cons c rest ih =>
    obtain ⟨x, w⟩ := c
    simp only [insertCell]
    split
    · simp [lookupCell, eq_comm]
    · split
      · rename_i _ h
        subst h
        by_cases hb : b = a
        · simp [lookupCell, hb]
        · simp [lookupCell, hb, Ne.symm hb]
      · rename_i _ h
        simp only [lookupCell, ih]
        by_cases hx : x = b
        · subst hx; simp [Ne.symm h]
        · simp [hx]

@[simp] theorem mem_insertAddress (a b : Nat) (l : List Nat) : b ∈ insertAddress a l ↔ b = a ∨ b ∈ l := by
  induction l with
  | nil => simp [insertAddress]
  | cons x rest ih =>
    simp only [insertAddress]
    split
    · simp
    · split
      · rename_i _ h; subst h; simp
      · simp only [List.mem_cons, ih]; tauto

@[simp] theorem mem_eraseAddress (a b : Nat) (l : List Nat) : b ∈ eraseAddress a l ↔ b ∈ l ∧ b ≠ a := by
  simp [eraseAddress]

/-! ### One byte -/

@[simp] theorem Memory.byteAt_writeByte (m : Memory) (a b : Nat) (v : Byte) :
    (m.writeByte a v).byteAt b = if b = a then v else m.byteAt b := by
  simp only [Memory.byteAt, Memory.writeByte, lookupCell_insertCell]
  split <;> simp

@[simp] theorem Memory.faultyAt_writeByte (m : Memory) (a b : Nat) (v : Byte) :
    (m.writeByte a v).faultyAt b = if b = a then false else m.faultyAt b := by
  simp only [Memory.faultyAt, Memory.writeByte, lookupCell_insertCell]
  by_cases h : b = a
  · simp [h]
  · simp only [h, if_false]
    cases lookupCell b m.cells <;> simp [h]

@[simp] theorem Memory.byteAt_spoilByte (m : Memory) (a b : Nat) (v : Byte) :
    (m.spoilByte a v).byteAt b = if b = a then v else m.byteAt b := by
  simp only [Memory.byteAt, Memory.spoilByte, lookupCell_insertCell]
  split <;> simp

@[simp] theorem Memory.faultyAt_spoilByte (m : Memory) (a b : Nat) (v : Byte) :
    (m.spoilByte a v).faultyAt b = if b = a then true else m.faultyAt b := by
  simp only [Memory.faultyAt, Memory.spoilByte, lookupCell_insertCell]
  by_cases h : b = a
  · simp [h]
  · simp only [h, if_false]
    cases lookupCell b m.cells <;> simp [h]

/-! ### Beats -/

/-- A beat gives its lanes back. -/
@[simp] theorem laneOf_beatOfLanes (l : Nat → Byte) (k : Fin 8) : laneOf (beatOfLanes l) k = l k := by
  have append : ∀ (n : Nat) (x : BitVec n) (y : Byte), (x ++ y).toNat = x.toNat * 256 + y.toNat := by
    intro n x y
    rw [BitVec.toNat_append, ← Nat.shiftLeft_add_eq_or_of_lt y.isLt, Nat.shiftLeft_eq]
  have lanes : ∀ b₀ b₁ b₂ b₃ b₄ b₅ b₆ b₇ : Byte,
      laneOf (b₇ ++ b₆ ++ b₅ ++ b₄ ++ b₃ ++ b₂ ++ b₁ ++ b₀ : Beat) k = #v[b₀, b₁, b₂, b₃, b₄, b₅, b₆, b₇][k] := by
    intro b₀ b₁ b₂ b₃ b₄ b₅ b₆ b₇
    apply BitVec.eq_of_toNat_eq
    have := b₀.isLt; have := b₁.isLt; have := b₂.isLt; have := b₃.isLt
    have := b₄.isLt; have := b₅.isLt; have := b₆.isLt; have := b₇.isLt
    have whole : (b₇ ++ b₆ ++ b₅ ++ b₄ ++ b₃ ++ b₂ ++ b₁ ++ b₀ : BitVec 64).toNat =
        ((((((b₇.toNat * 256 + b₆.toNat) * 256 + b₅.toNat) * 256 + b₄.toNat) * 256 + b₃.toNat) * 256
          + b₂.toNat) * 256 + b₁.toNat) * 256 + b₀.toNat := by
      rw [append, append, append, append, append, append, append]
    simp only [laneOf, BitVec.extractLsb'_toNat, whole, Nat.shiftRight_eq_div_pow]
    fin_cases k <;> simp <;> omega
  rw [beatOfLanes, lanes]
  fin_cases k <;> rfl

/-- Lane `k` of a beat read is the byte at its place (R98). -/
theorem Memory.laneOf_readBeat (m : Memory) (a : Nat) (k : Fin 8) : laneOf (m.readBeat a) k = m.byteAt (a + k) :=
  laneOf_beatOfLanes _ k

/-- Whether a write of the given lanes of one beat stores the byte at `b`. -/
abbrev writesByte (a : Nat) (w : WriteBeat) (lanes : List Nat) (b : Nat) : Prop :=
  a ≤ b ∧ b - a ∈ lanes ∧ w.enables.getLsbD (b - a) = true

theorem Memory.byteAt_writeLanes (m : Memory) (a : Nat) (w : WriteBeat) (lanes : List Nat) (b : Nat) :
    (m.writeLanes a w lanes).byteAt b = if writesByte a w lanes b then laneOf w.data (b - a) else m.byteAt b := by
  induction lanes generalizing m with
  | nil => simp [Memory.writeLanes]
  | cons k rest ih =>
    rw [Memory.writeLanes, ih]
    by_cases hr : writesByte a w rest b
    · have : writesByte a w (k :: rest) b := ⟨hr.1, List.mem_cons_of_mem _ hr.2.1, hr.2.2⟩
      rw [if_pos hr, if_pos this]
    · rw [if_neg hr]
      by_cases hk : w.enables.getLsbD k = true
      · rw [if_pos hk, Memory.byteAt_writeByte]
        by_cases hb : b = a + k
        · subst hb
          simp [writesByte, hk]
        · have : ¬ writesByte a w (k :: rest) b := by
            rintro ⟨h1, h2, h3⟩
            rcases List.mem_cons.mp h2 with h | h
            · exact hb (by omega)
            · exact hr ⟨h1, h, h3⟩
          rw [if_neg hb, if_neg this]
      · rw [if_neg hk]
        have : ¬ writesByte a w (k :: rest) b := by
          rintro ⟨h1, h2, h3⟩
          rcases List.mem_cons.mp h2 with h | h
          · exact hk (h ▸ h3)
          · exact hr ⟨h1, h, h3⟩
        rw [if_neg this]

theorem Memory.faultyAt_writeLanes (m : Memory) (a : Nat) (w : WriteBeat) (lanes : List Nat) (b : Nat) :
    (m.writeLanes a w lanes).faultyAt b = if writesByte a w lanes b then false else m.faultyAt b := by
  induction lanes generalizing m with
  | nil => simp [Memory.writeLanes]
  | cons k rest ih =>
    rw [Memory.writeLanes, ih]
    by_cases hr : writesByte a w rest b
    · have : writesByte a w (k :: rest) b := ⟨hr.1, List.mem_cons_of_mem _ hr.2.1, hr.2.2⟩
      rw [if_pos hr, if_pos this]
    · rw [if_neg hr]
      by_cases hk : w.enables.getLsbD k = true
      · rw [if_pos hk, Memory.faultyAt_writeByte]
        by_cases hb : b = a + k
        · subst hb
          simp [writesByte, hk]
        · have : ¬ writesByte a w (k :: rest) b := by
            rintro ⟨h1, h2, h3⟩
            rcases List.mem_cons.mp h2 with h | h
            · exact hb (by omega)
            · exact hr ⟨h1, h, h3⟩
          rw [if_neg hb, if_neg this]
      · rw [if_neg hk]
        have : ¬ writesByte a w (k :: rest) b := by
          rintro ⟨h1, h2, h3⟩
          rcases List.mem_cons.mp h2 with h | h
          · exact hk (h ▸ h3)
          · exact hr ⟨h1, h, h3⟩
        rw [if_neg this]

theorem mem_allLanes (k : Nat) : k ∈ allLanes ↔ k < 8 := by
  simp only [allLanes, List.mem_cons, List.not_mem_nil, or_false]
  omega

/-- The beat of an operation that holds the byte at `b`, for an operation whose first beat is at `a`. -/
def beatHolding (a : Nat) (beats : List WriteBeat) (b : Nat) : Option WriteBeat :=
  if a ≤ b then beats[(b - a) / 8]? else none

theorem beatHolding_cons_of_lt {a b : Nat} (w : WriteBeat) (rest : List WriteBeat) (h : a ≤ b) (h8 : b < a + 8) :
    beatHolding a (w :: rest) b = some w := by
  have : (b - a) / 8 = 0 := by omega
  simp [beatHolding, h, this]

theorem beatHolding_cons_of_ge {a b : Nat} (w : WriteBeat) (rest : List WriteBeat) (h8 : a + 8 ≤ b) :
    beatHolding a (w :: rest) b = beatHolding (a + 8) rest b := by
  have : (b - a) / 8 = (b - (a + 8)) / 8 + 1 := by omega
  have h : a ≤ b := by omega
  simp [beatHolding, h, h8, this]

theorem beatHolding_of_lt {a b : Nat} (beats : List WriteBeat) (h : b < a) : beatHolding a beats b = none := by
  have : ¬ a ≤ b := by omega
  simp [beatHolding, this]

/-- A write of beats, byte by byte: an enabled lane of a beat takes its data, every other byte keeps its value (R97). -/
theorem Memory.byteAt_writeBeats (m : Memory) (a : Nat) (beats : List WriteBeat) (b : Nat) :
    (m.writeBeats a beats).byteAt b = match beatHolding a beats b with
      | some w => if w.enables.getLsbD ((b - a) % 8) then laneOf w.data ((b - a) % 8) else m.byteAt b
      | none => m.byteAt b := by
  induction beats generalizing m a with
  | nil => simp [Memory.writeBeats, beatHolding]
  | cons w rest ih =>
    rw [Memory.writeBeats, ih]
    by_cases h1 : a + 8 ≤ b
    · rw [beatHolding_cons_of_ge _ _ h1]
      have hm : (b - a) % 8 = (b - (a + 8)) % 8 := by omega
      have hb : (m.writeBeat a w).byteAt b = m.byteAt b := by
        rw [Memory.writeBeat, Memory.byteAt_writeLanes, if_neg]
        rintro ⟨_, h, _⟩
        rw [mem_allLanes] at h
        omega
      rw [hm, hb]
    · rw [beatHolding_of_lt _ (by omega)]
      by_cases h2 : a ≤ b
      · rw [beatHolding_cons_of_lt _ _ h2 (by omega)]
        have hm : (b - a) % 8 = b - a := by omega
        have hl : b - a ∈ allLanes := (mem_allLanes _).mpr (by omega)
        simp only [Memory.writeBeat, Memory.byteAt_writeLanes, writesByte, hm, h2, hl, true_and]
      · rw [beatHolding_of_lt _ (by omega)]
        simp only [Memory.writeBeat, Memory.byteAt_writeLanes, writesByte, h2, false_and, if_false]

/-- A write of beats leaves an enabled byte parity-good and every other byte's parity state as it was (R97). -/
theorem Memory.faultyAt_writeBeats (m : Memory) (a : Nat) (beats : List WriteBeat) (b : Nat) :
    (m.writeBeats a beats).faultyAt b = match beatHolding a beats b with
      | some w => if w.enables.getLsbD ((b - a) % 8) then false else m.faultyAt b
      | none => m.faultyAt b := by
  induction beats generalizing m a with
  | nil => simp [Memory.writeBeats, beatHolding]
  | cons w rest ih =>
    rw [Memory.writeBeats, ih]
    by_cases h1 : a + 8 ≤ b
    · rw [beatHolding_cons_of_ge _ _ h1]
      have hm : (b - a) % 8 = (b - (a + 8)) % 8 := by omega
      have hb : (m.writeBeat a w).faultyAt b = m.faultyAt b := by
        rw [Memory.writeBeat, Memory.faultyAt_writeLanes, if_neg]
        rintro ⟨_, h, _⟩
        rw [mem_allLanes] at h
        omega
      rw [hm, hb]
    · rw [beatHolding_of_lt _ (by omega)]
      by_cases h2 : a ≤ b
      · rw [beatHolding_cons_of_lt _ _ h2 (by omega)]
        have hm : (b - a) % 8 = b - a := by omega
        have hl : b - a ∈ allLanes := (mem_allLanes _).mpr (by omega)
        simp only [Memory.writeBeat, Memory.faultyAt_writeLanes, writesByte, hm, h2, hl, true_and]
      · rw [beatHolding_of_lt _ (by omega)]
        simp only [Memory.writeBeat, Memory.faultyAt_writeLanes, writesByte, h2, false_and, if_false]

/-- A byte outside the written beats keeps its value and its parity state. -/
theorem Memory.writeBeats_outside (m : Memory) (a : Nat) (beats : List WriteBeat) (b : Nat)
    (h : b < a ∨ a + 8 * beats.length ≤ b) :
    (m.writeBeats a beats).byteAt b = m.byteAt b ∧ (m.writeBeats a beats).faultyAt b = m.faultyAt b := by
  have hn : beatHolding a beats b = none := by
    unfold beatHolding
    split
    · rw [List.getElem?_eq_none_iff]
      omega
    · rfl
  rw [Memory.byteAt_writeBeats, Memory.faultyAt_writeBeats, hn]
  exact ⟨rfl, rfl⟩

@[simp] theorem Memory.length_readBeats (m : Memory) (a n : Nat) : (m.readBeats a n).length = n := by
  induction n generalizing a with
  | zero => rfl
  | succ n ih => simp [Memory.readBeats, ih]

theorem Memory.anyFaulty_iff (m : Memory) (a n : Nat) : m.anyFaulty a n = true ↔ ∃ k < n, m.faultyAt (a + k) = true := by
  induction n generalizing a with
  | zero => simp [Memory.anyFaulty]
  | succ n ih =>
    rw [Memory.anyFaulty, Bool.or_eq_true, ih]
    constructor
    · rintro (h | ⟨k, hk, h⟩)
      · exact ⟨0, Nat.succ_pos n, h⟩
      · exact ⟨k + 1, by omega, by rw [show a + (k + 1) = a + 1 + k by omega]; exact h⟩
    · rintro ⟨k, hk, h⟩
      cases k with
      | zero => exact Or.inl h
      | succ k => exact Or.inr ⟨k, by omega, by rw [show a + 1 + k = a + (k + 1) by omega]; exact h⟩

/-! ### The canonical form -/

theorem risingFrom_insertCell {bound a : Nat} (v : Byte) {l : List Host.Cell} (hb : bound < a)
    (h : risingFrom bound (l.map Prod.fst) = true) : risingFrom bound ((insertCell a v l).map Prod.fst) = true := by
  induction l generalizing bound with
  | nil => simp [insertCell, risingFrom, hb]
  | cons c rest ih =>
    obtain ⟨x, w⟩ := c
    simp only [List.map_cons, risingFrom, Bool.and_eq_true, decide_eq_true_eq] at h
    simp only [insertCell]
    split
    · simp_all [risingFrom]
    · split
      · simp_all [risingFrom]
      · simp only [List.map_cons, risingFrom, Bool.and_eq_true, decide_eq_true_eq]
        exact ⟨h.1, ih (by omega) h.2⟩

theorem rising_insertCell (a : Nat) (v : Byte) {l : List Host.Cell} (h : rising (l.map Prod.fst) = true) :
    rising ((insertCell a v l).map Prod.fst) = true := by
  cases l with
  | nil => rfl
  | cons c rest =>
    obtain ⟨x, w⟩ := c
    simp only [List.map_cons, rising] at h
    simp only [insertCell]
    split
    · simp_all [rising, risingFrom]
    · split
      · simp_all [rising]
      · exact risingFrom_insertCell v (by omega) h

theorem risingFrom_insertAddress {bound a : Nat} {l : List Nat} (hb : bound < a) (h : risingFrom bound l = true) :
    risingFrom bound (insertAddress a l) = true := by
  induction l generalizing bound with
  | nil => simp [insertAddress, risingFrom, hb]
  | cons x rest ih =>
    simp only [risingFrom, Bool.and_eq_true, decide_eq_true_eq] at h
    simp only [insertAddress]
    split
    · simp_all [risingFrom]
    · split
      · simp_all [risingFrom]
      · simp only [risingFrom, Bool.and_eq_true, decide_eq_true_eq]
        exact ⟨h.1, ih (by omega) h.2⟩

theorem rising_insertAddress (a : Nat) {l : List Nat} (h : rising l = true) : rising (insertAddress a l) = true := by
  cases l with
  | nil => rfl
  | cons x rest =>
    simp only [rising] at h
    simp only [insertAddress]
    split
    · simp_all [rising, risingFrom]
    · split
      · simp_all [rising]
      · exact risingFrom_insertAddress (by omega) h

theorem risingFrom_mono {b c : Nat} {l : List Nat} (hbc : b ≤ c) (h : risingFrom c l = true) : risingFrom b l = true := by
  cases l with
  | nil => rfl
  | cons x rest =>
    simp only [risingFrom, Bool.and_eq_true, decide_eq_true_eq] at h ⊢
    exact ⟨by omega, h.2⟩

theorem risingFrom_filter {bound : Nat} (p : Nat → Bool) {l : List Nat} (h : risingFrom bound l = true) :
    risingFrom bound (l.filter p) = true := by
  induction l generalizing bound with
  | nil => rfl
  | cons x rest ih =>
    simp only [risingFrom, Bool.and_eq_true, decide_eq_true_eq] at h
    rw [List.filter_cons]
    split
    · simp only [risingFrom, Bool.and_eq_true, decide_eq_true_eq]
      exact ⟨h.1, ih h.2⟩
    · exact risingFrom_mono (Nat.le_of_lt h.1) (ih h.2)

theorem rising_eraseAddress (a : Nat) {l : List Nat} (h : rising l = true) : rising (eraseAddress a l) = true := by
  cases l with
  | nil => rfl
  | cons x rest =>
    simp only [rising] at h
    rw [eraseAddress, List.filter_cons]
    split
    · exact risingFrom_filter _ h
    · have := risingFrom_filter (fun b => decide (b ≠ a)) h
      cases hf : rest.filter (fun b => decide (b ≠ a)) with
      | nil => rfl
      | cons y ys =>
        rw [hf] at this
        simp only [risingFrom, Bool.and_eq_true] at this
        exact this.2

theorem Memory.wf_iff (m : Memory) : m.wf = true ↔
    rising (m.cells.map Prod.fst) = true ∧ rising m.faulty = true ∧ ∀ a ∈ m.faulty, (lookupCell a m.cells).isSome = true := by
  simp [Memory.wf, and_assoc]

theorem Memory.wf_empty : Memory.empty.wf = true := rfl

theorem Memory.wf_writeByte {m : Memory} (a : Nat) (v : Byte) (h : m.wf = true) : (m.writeByte a v).wf = true := by
  rw [Memory.wf_iff] at h ⊢
  refine ⟨rising_insertCell a v h.1, rising_eraseAddress a h.2.1, fun b hb => ?_⟩
  simp only [Memory.writeByte, mem_eraseAddress] at hb
  simp [Memory.writeByte, hb.2, h.2.2 b hb.1]

theorem Memory.wf_spoilByte {m : Memory} (a : Nat) (v : Byte) (h : m.wf = true) : (m.spoilByte a v).wf = true := by
  rw [Memory.wf_iff] at h ⊢
  refine ⟨rising_insertCell a v h.1, rising_insertAddress a h.2.1, fun b hb => ?_⟩
  simp only [Memory.spoilByte, mem_insertAddress] at hb
  rcases hb with hb | hb
  · simp [Memory.spoilByte, hb]
  · simp only [Memory.spoilByte, lookupCell_insertCell]
    split
    · rfl
    · exact h.2.2 b hb

theorem Memory.wf_writeLanes {m : Memory} (a : Nat) (w : WriteBeat) (lanes : List Nat) (h : m.wf = true) :
    (m.writeLanes a w lanes).wf = true := by
  induction lanes generalizing m with
  | nil => exact h
  | cons k rest ih =>
    rw [Memory.writeLanes]
    apply ih
    split
    · exact Memory.wf_writeByte _ _ h
    · exact h

theorem Memory.wf_writeBeat {m : Memory} (a : Nat) (w : WriteBeat) (h : m.wf = true) : (m.writeBeat a w).wf = true :=
  Memory.wf_writeLanes a w allLanes h

theorem Memory.wf_writeBeats {m : Memory} (a : Nat) (beats : List WriteBeat) (h : m.wf = true) :
    (m.writeBeats a beats).wf = true := by
  induction beats generalizing m a with
  | nil => exact h
  | cons w rest ih => exact ih (a + 8) (Memory.wf_writeBeat a w h)

end Sys2Proof.Machine
end

