-- ==== Sys2Proof/Laws/PerInstr.lean ====
section
/-! SUPPORT. One lemma for each command about its frame on the management link: a management command is well-formed and sends one of the
fifteen codes with as many argument bytes as its code takes; every other command sends no frame. -/

namespace Sys2Proof.Laws.Frames

open Sys2Proof.Machine

/-- The argument bytes that a command code takes (Table 12-5). -/
def argumentBytes (code : Byte) : Nat :=
  match code.toNat with
  | 0x10 => 3
  | 0x11 => 7
  | 0x12 => 4
  | 0x13 | 0x18 => 2
  | 0x30 | 0x31 => 1
  | _ => 0

/-- The frame of a command is a right one for its code (Table 12-5). -/
def Statement (i : Instr) : Prop :=
  ∀ frame check, frameOf i = some (frame, check) →
    i.wf = true ∧ ∃ code arguments, frame = code :: arguments ∧ code ∈ commandCodes ∧ arguments.length = argumentBytes code

/-- A command without a frame. -/
theorem of_none {i : Instr} (h : frameOf i = none) : Statement i := by
  intro frame check k
  rw [h] at k
  cases k

/-- A command whose frame is known. -/
theorem of_some {i : Instr} {code check : Byte} {arguments : List Byte} (h : frameOf i = some (code :: arguments, check))
    (w : i.wf = true) (m : code ∈ commandCodes) (l : arguments.length = argumentBytes code) : Statement i := by
  intro frame c k
  rw [h] at k
  cases k
  exact ⟨w, code, arguments, rfl, m, l⟩

theorem powerOnReset : Statement .powerOnReset := of_none rfl
theorem resetNRelease : Statement .resetNRelease := of_none rfl
theorem portReset (port : PortId) : Statement (.portReset port) := of_none rfl
theorem portResetRelease (port : PortId) : Statement (.portResetRelease port) := of_none rfl
theorem acceptance (port : PortId) (message : RequestMessage) : Statement (.acceptance port message) := of_none rfl
theorem responseTransfer (port : PortId) : Statement (.responseTransfer port) := of_none rfl
theorem slotStart : Statement .slotStart := of_none rfl
theorem slotEnd (check : DrainCheckOrder) : Statement (.slotEnd check) := of_none rfl
theorem readComplete (bank : Bank) : Statement (.readComplete bank) := of_none rfl
theorem writeComplete (bank : Bank) : Statement (.writeComplete bank) := of_none rfl
theorem atomicReadComplete (bank : Bank) : Statement (.atomicReadComplete bank) := of_none rfl
theorem atomicPairEnd (bank : Bank) : Statement (.atomicPairEnd bank) := of_none rfl
theorem secondaryWriteComplete (bank : Bank) : Statement (.secondaryWriteComplete bank) := of_none rfl
theorem recoveryReadComplete (bank : Bank) : Statement (.recoveryReadComplete bank) := of_none rfl
theorem timeout (turns : List PortId) : Statement (.timeout turns) := of_none rfl
theorem swapped (turns : List PortId) : Statement (.swapped turns) := of_none rfl
theorem abandoned : Statement .abandoned := of_none rfl
theorem truncation (check : DrainCheckOrder) : Statement (.truncation check) := of_none rfl
theorem forcedBoundary : Statement .forcedBoundary := of_none rfl
theorem syncLost : Statement .syncLost := of_none rfl
theorem syncPulse : Statement .syncPulse := of_none rfl
theorem strobeEdge : Statement .strobeEdge := of_none rfl
theorem selectRelease : Statement .selectRelease := of_none rfl
theorem badCommand (code : Byte) : Statement (.badCommand code) := of_none rfl
theorem readStatus (check : Byte) : Statement (.readStatus check) := of_some rfl rfl (by decide) rfl
theorem readFault (check : Byte) : Statement (.readFault check) := of_some rfl rfl (by decide) rfl
theorem readCapture (check : Byte) : Statement (.readCapture check) := of_some rfl rfl (by decide) rfl
theorem captureNow (check : Byte) : Statement (.captureNow check) := of_some rfl rfl (by decide) rfl
theorem writeGrid (row position code check : Byte) : Statement (.writeGrid row position code check) :=
  of_some rfl rfl (by decide) rfl
theorem writeRegion (index : Byte) (image : Vector Byte 6) (check : Byte) : Statement (.writeRegion index image check) :=
  of_some rfl rfl (by decide) (by simp [argumentBytes])
theorem writeGeometry (image : Vector Byte 4) (check : Byte) : Statement (.writeGeometry image check) :=
  of_some rfl rfl (by decide) (by simp [argumentBytes])
theorem writePortLimit (port limit check : Byte) : Statement (.writePortLimit port limit check) :=
  of_some rfl rfl (by decide) rfl
theorem restage (check : Byte) : Statement (.restage check) := of_some rfl rfl (by decide) rfl
theorem readPlan (plan item check : Byte) : Statement (.readPlan plan item check) := of_some rfl rfl (by decide) rfl
theorem commit (check : Byte) : Statement (.commit check) := of_some rfl rfl (by decide) rfl
theorem cancelCommit (check : Byte) : Statement (.cancelCommit check) := of_some rfl rfl (by decide) rfl
theorem setAlertMask (mask check : Byte) : Statement (.setAlertMask mask check) := of_some rfl rfl (by decide) rfl
theorem setStrobe (setting check : Byte) : Statement (.setStrobe setting check) := of_some rfl rfl (by decide) rfl
theorem trafficReset (check : Byte) : Statement (.trafficReset check) := of_some rfl rfl (by decide) rfl
theorem frameOpen : Statement .frameOpen := of_none rfl
theorem replySpent : Statement .replySpent := of_none rfl
theorem memoryDeviceChange (address : Address) (value : Byte) : Statement (.memoryDeviceChange address value) := of_none rfl

end Sys2Proof.Laws.Frames
end

