-- ==== Sys2Proof/Tests/Slice0.lean ====
section
/-! SUPPORT. The model's own tests: ill-formed commands, one small effect for each command, the numbers of the spec's examples, and for each
statement with hypotheses a state and operands that meet them, clause by clause. -/

namespace Sys2Proof.Tests

open Sys2Proof.Machine

set_option maxRecDepth 8000

/-! ### Helpers -/

/-- The state a command leaves; the state itself where it answers none. -/
def did (c : Instr) (s : State) : State :=
  match exec c s with
  | .next t => t
  | .fault _ | .refused _ => s

/-- The state that a few commands leave. -/
def run (l : List Instr) (s : State) : State := l.foldl (fun t c => did c t) s

/-- A request of one beat. -/
def request (kind : RequestKind) (address : Address) (length : BitVec 4) : RequestMessage :=
  ⟨kind, 5, address, length, Vector.replicate 8 0xFF, #v[3, 0, 0, 0, 0, 0, 0, 0]⟩

/-- A queue entry of port 1 with reference 7 at 100h. -/
def entry (work : Work) (state : EntryState) (mirror : Bool) : QueueEntry :=
  ⟨7, work, 0x100, 1, .lc0, mirror, 0, state, none, false⟩

/-- What the sequencer keeps of that entry. -/
def access (mirror : Bool) : PortAccess := ⟨1, 7, 0x100, 0x100, 1, mirror⟩

/-- The beat at 100h written with 5, and the same at 2000100h. -/
def written : Memory := (Memory.empty.writeBeats 0x100 [⟨0xFF, 5⟩]).writeBeats 0x2000100 [⟨0xFF, 5⟩]

/-- Reset with one entry in port 1's queue, its PENDING completion entry, and the memory above. -/
def queued (e : QueueEntry) (kind : RequestKind) : State :=
  { State.reset with
    queues := ⟨[], [e], [], []⟩
    ports := ⟨resetPort, ⟨false, [⟨7, 5, kind, .pending⟩]⟩, resetPort, resetPort⟩
    memory := written
    nextRef := 8 }

/-- In slot 2, with an operation and a pair on bank LC.0. -/
def performing (o : Option Operation) (p : Option AtomicPair) (s : State) : State :=
  { s with
    scheduler := { s.scheduler with timer := .running, position := 2 }
    banks := ⟨⟨o, false, p⟩, resetSequencer, resetSequencer, resetSequencer⟩ }

/-- The same with the byte at 103h parity-faulty. -/
def spoiled (s : State) : State := { s with memory := s.memory.spoilByte 0x103 0xFF }

/-- A state whose receiver has received a frame up to its check byte. -/
def receiving (s : State) : State := { s with link := { s.link with selectActive := true, receiver := .receiving } }

/-- The default plan with port 1 given positions 0 and 1 of bank LC.0, bank LC.0 mirrored, region 0 over the first page. -/
def pairPlan : Plan := { defaultPlan with
  grid := { defaultPlan.grid with lc0 := ⟨#v[.port 1, .port 1, .mirror, .openSlot, .idle, .idle, .idle, .refresh]⟩ }
  regions := defaultPlan.regions.set 0 ⟨true, 0, 0, 2, 2, true⟩ }

/-- A state under the plan above. -/
def paired (s : State) : State := { s with commit := { s.commit with active := pairPlan, staged := pairPlan } }

/-- A state at the end of the last slot. -/
def lastSlot (s : State) : State := { s with scheduler := { s.scheduler with timer := .running, position := 7 } }

/-- A state in which a commit is pending, with a boundary reaction due. -/
def pendingCommit (c : CommitState) (staged : Plan) (s : State) : State :=
  { s with commit := { s.commit with state := c, staged := staged, reactionDue := true } }

/-- The default plan with split mode on. -/
def splitPlan : Plan := { defaultPlan with geometry := { defaultPlan.geometry with split := true } }

/-- A fault record. -/
def record : FaultRecord := ⟨.timeout, some 1, some 5, some 0x100, some .lc0, none, 3, 0⟩

/-! ### Well-formed commands -/

theorem test_known_codes_are_no_bad_command : (Instr.badCommand 0x01).wf = false ∧ (Instr.badCommand 0x3C).wf = false := by decide
theorem test_unknown_code_is_a_bad_command : (Instr.badCommand 0x22).wf = true := by decide
theorem test_absent_byte_is_ill_formed : (Instr.memoryDeviceChange 0x8000000 0).wf = false := by decide
theorem test_last_byte_is_well_formed : (Instr.memoryDeviceChange 0x7FFFFFF 0).wf = true := by decide

/-! ### Numbers of the spec -/

theorem test_check_byte_of_one : checkByte [0x01] = 0x07 := by decide
theorem test_check_byte_of_zero : checkByte [0x00] = 0x00 := by decide
theorem test_default_geometry_image : geometryImage defaultPlan.general = [0x08, 0x00, 0x04, 0x00] := by decide
theorem test_default_row_image : rowImage (defaultPlan.grid.get .lc0) = [0x44, 0x44, 0x44, 0x46] := by decide
theorem test_region_image : regionImage (pairPlan.region 0) = [0, 0, 0, 0, 0x03, 0x22] := by decide
theorem test_fault_image : faultImage record = [0x05, 0x03, 0x15, 0, 0, 1, 0, 0x00, 0, 3, 0] := by decide
theorem test_capture_image : captureImage ⟨0x1234, 6, .locked, .command⟩ = [0x12, 0x34, 6, 0x82] := by decide
theorem test_no_word_spells_a_command : decodeTableWord 8 0 = none := by decide

/-- Table 1-3. -/
theorem test_mapping_64_unsplit :
    bankOf defaultPlan.geometry 0x1000 = some .lc0 ∧ partnerAddress defaultPlan.geometry 0x1000 = 0x2001000
    ∧ crossesWindow defaultPlan.geometry 0x1FFFFF0 8 = true ∧ bankOf defaultPlan.geometry 0x3FFFFF8 = some .uc0
    ∧ partnerAddress defaultPlan.geometry 0x3FFFFF8 = 0x1FFFFF8 ∧ bankOf defaultPlan.geometry 0x4000000 = none := by decide

/-- Table 1-4. -/
theorem test_mapping_128_split :
    let g : Geometry := ⟨.eight, true, .mib128, .dynamic⟩
    bankOf g 0x1000 = some .lc0 ∧ partnerAddress g 0x1000 = 0x4001000 ∧ bankOf g 0x3FFFFF8 = some .lc1
    ∧ bankOf g 0x4000000 = some .uc0 ∧ partnerAddress g 0x4000000 = 0 ∧ bankOf g 0x7FFFFF8 = some .uc1
    ∧ crossesWindow g 0x1FFFFF0 8 = true ∧ crossesWindow g 0xFFFFFFF8 2 = true := by decide

/-! ### Resets -/

theorem test_reset_is_quiet : State.reset.memory = Memory.empty ∧ State.reset.pending = [] ∧ State.reset.alert = false := by decide

theorem test_powerOnReset :
    let t := did .powerOnReset (spoiled (queued (entry .read .waiting false) .read))
    t.queues.p1 = [] ∧ t.memory.byteAt 0x103 = 0xFF ∧ t.memory.faultyAt 0x103 = true ∧ t.scheduler.timer = .stopped := by decide

theorem test_resetNRelease : did .resetNRelease (did .powerOnReset State.reset) = State.reset := by decide

theorem test_portReset : did (.portReset 1) (queued (entry .read .waiting false) .read) =
    { State.reset with
      ports := ⟨resetPort, ⟨true, []⟩, resetPort, resetPort⟩
      memory := written
      nextRef := 8 } := by decide

theorem test_portResetRelease : (run [.portReset 1, .portResetRelease 1] State.reset).gateOpen 1 = true
    ∧ (did (.portReset 1) State.reset).gateOpen 1 = false := by decide

theorem test_witness_release_of_reset : (did .powerOnReset State.reset).scheduler.timer = .stopped
    ∧ State.reset.scheduler.timer ≠ .stopped := by decide

theorem test_witness_port_reset_release : State.reset.scheduler.timer ≠ .stopped
    ∧ (State.reset.ports.get 1).completions = [] := by decide

theorem test_witness_plans_at_resets : State.reset.commit.reactionDue = false := by decide

theorem test_witness_empty_queue : State.reset.pending = [] := by decide

/-! ### Acceptance and responses -/

theorem test_acceptance_of_a_read : (did (.acceptance 1 (request .read 0x100 1)) State.reset).queues.p1 =
    [⟨0, .read, 0x100, 1, .lc0, false, 0, .waiting, none, false⟩] := by decide

theorem test_acceptance_of_an_atomic_without_pair :
    let t := did (.acceptance 1 (request .swap 0x100 1)) State.reset
    t.queues.p1 = [] ∧ t.ports.p1.completions = [⟨0, 5, .swap, .done ⟨.noLink, [], false⟩⟩]
    ∧ t.link.faults = [⟨.noLink, some 1, some 5, some 0x100, some .lc0, none, 0, 0⟩] := by decide

theorem test_responseTransfer :
    (did (.responseTransfer 1) (did (.acceptance 1 (request .swap 0x100 1)) State.reset)).ports.p1.completions = [] := by decide

theorem test_witness_gate : State.reset.gateOpen 1 = true ∧ (did (.portReset 1) State.reset).gateOpen 1 = false := by decide

theorem test_witness_gate_at_capacity :
    let full : State := { State.reset with
      ports := State.reset.ports.set 1 ⟨false, List.replicate 8 ⟨0, 0, .read, .pending⟩⟩ }
    let seven : State := { State.reset with
      ports := State.reset.ports.set 1 ⟨false, List.replicate 7 ⟨0, 0, .read, .pending⟩⟩ }
    full.gateOpen 1 = false ∧ seven.gateOpen 1 = true := by decide

theorem test_witness_refused : State.reset.gateOpen 1 = true ∧ acceptanceDecision State.reset.commit.active 1
    (request .read 0x4000000 1) = .refuse .range .range none none := by decide

theorem test_witness_accepted : State.reset.gateOpen 1 = true ∧ acceptanceDecision State.reset.commit.active 1
    (request .read 0x3FFFFF8 1) = .accept .uc0 false := by decide

theorem test_witness_banks : defaultPlan.geometry.size.bytes ≤ (0x4000000 : Address).toNat
    ∧ (0x3FFFFFF : Address).toNat < defaultPlan.geometry.size.bytes := by decide

theorem test_malformed_cases : isMalformed defaultPlan.geometry (request .read 0x100 0) = true
    ∧ isMalformed defaultPlan.geometry (request .read 0x100 8) = false
    ∧ isMalformed defaultPlan.geometry (request .read 0x100 9) = true
    ∧ isMalformed defaultPlan.geometry (request .read 0x104 1) = true
    ∧ isMalformed defaultPlan.geometry (request .fetchAdd 0x100 2) = true
    ∧ isMalformed defaultPlan.geometry (request .read 0x1FFFFF8 1) = false
    ∧ isMalformed defaultPlan.geometry (request .read 0x1FFFFF8 2) = true := by decide

theorem test_witness_range : isMalformed defaultPlan.geometry (request .read 0x4000000 1) = false
    ∧ defaultPlan.geometry.size.bytes ≤ (request .read 0x4000000 1).address.toNat
    ∧ isMalformed defaultPlan.geometry (request .read 0x3FFFFF8 1) = false
    ∧ (request .read 0x3FFFFF8 1).address.toNat < defaultPlan.geometry.size.bytes := by decide

theorem test_witness_split_span :
    let m := request .read 0xFF8 2
    isMalformed pairPlan.geometry m = false ∧ bankOf pairPlan.geometry m.address = some .lc0
    ∧ firstMatch pairPlan m.address.toNat ≠ firstMatch pairPlan (lastByte m.address m.length.toNat) := by decide

theorem test_witness_region_permission :
    let m := request .swap 0xFF8 1
    isMalformed pairPlan.geometry m = false ∧ bankOf pairPlan.geometry m.address = some .lc0
    ∧ firstMatch pairPlan m.address.toNat = some 0 ∧ firstMatch pairPlan (lastByte m.address m.length.toNat) = some 0
    ∧ acceptanceDecision pairPlan 1 m = .accept .lc0 true
    ∧ acceptanceDecision pairPlan 2 m = .refuse .denied .denied (some .lc0) (some 0) := by decide

theorem test_witness_default_policy :
    let m := request .read 0x1000 1
    isMalformed pairPlan.geometry m = false ∧ bankOf pairPlan.geometry m.address = some .lc0
    ∧ firstMatch pairPlan m.address.toNat = none ∧ firstMatch pairPlan (lastByte m.address m.length.toNat) = none
    ∧ pairPlan.defaultPolicy = .allow ∧ { pairPlan with defaultPolicy := .deny }.defaultPolicy = .deny := by decide

theorem test_witness_no_link :
    let m := request .swap 0x1000 1
    isMalformed pairPlan.geometry m = false ∧ bankOf pairPlan.geometry m.address = some .lc0
    ∧ regionCheck pairPlan 1 m.kind m.address m.length.toNat = .allowed false
    ∧ (pairPlan.grid.get .lc0).codeAt 0 = .port 1 ∧ (pairPlan.grid.get .lc0).codeAt (0 + 1) = .port 1
    ∧ acceptanceDecision pairPlan 1 m = .accept .lc0 false
    ∧ acceptanceDecision pairPlan 2 m = .refuse .noLink .noLink (some .lc0) none
    ∧ regionCheck pairPlan 2 .read m.address m.length.toNat = .allowed false := by decide

theorem test_witness_response :
    let s := did (.acceptance 1 (request .swap 0x100 1)) State.reset
    s.scheduler.timer ≠ .stopped ∧ (s.ports.get 1).resetLine = false
    ∧ (s.ports.get 1).completions = [⟨0, 5, .swap, .done ⟨.noLink, [], false⟩⟩]
    ∧ s.offered 1 = some ⟨5, 4, false, List.replicate 8 0⟩ := by decide

theorem test_witness_no_response : (State.reset.ports.get 1).completions = []
    ∧ ((queued (entry .read .waiting false) .read).ports.get 1).completions = [⟨7, 5, .read, .pending⟩]
    ∧ ((did (.portReset 1) State.reset).ports.get 1).resetLine = true
    ∧ (did .powerOnReset State.reset).scheduler.timer = .stopped := by decide

theorem test_witness_completion_lists :
    let s := did (.acceptance 1 (request .swap 0x100 1)) State.reset
    let e : CompletionEntry := ⟨0, 5, .swap, .done ⟨.noLink, [], false⟩⟩
    s.RefsFresh ∧ e ∈ (s.ports.get 1).completions ∧ e.state ≠ .pending
    ∧ e ∈ ((did (.acceptance 1 (request .read 0x100 1)) s).ports.get 1).completions := by decide

/-! ### Slot start -/

theorem test_slotStart_grants :
    let t := did .slotStart (queued (entry .read .waiting false) .read)
    t.banks.lc0.operation = some (.portRead (access false)) ∧ t.queues.p1 = [entry .read .inSlot false]
    ∧ t.scheduler.pointers.lc0 = 2 ∧ t.scheduler.timer = .running := by decide

theorem test_slotStart_links :
    let e := entry (.atomic .swap 3) .waiting true
    let t := did .slotStart (paired (queued e .swap))
    t.banks.lc0.operation = some (.atomicRead (access true)) ∧ t.queues.p1 = [entry (.atomic .swap 3) .linked true]
    ∧ t.mirrors.uc0.reservations = 1 := by decide

theorem test_witness_slot_start : State.reset.scheduler.timer = .starting ∧ State.reset.commit.reactionDue = false
    ∧ State.reset.sync.lostDue = false
    ∧ (did .slotStart State.reset).scheduler.timer ≠ .starting := by decide

theorem test_witness_slot_start_takes_what_is_due :
    let w := pendingCommit .waiting pairPlan State.reset
    let q := queued (entry .read .waiting false) .read
    let a : State := pendingCommit .draining splitPlan { q with commit := { q.commit with drainCount := 1024 } }
    w.scheduler.timer = .starting ∧ w.swapDue = true ∧ a.scheduler.timer = .starting ∧ a.abandonDue = true
    ∧ State.reset.commit.state = .none
    ∧ did .slotStart w = did .slotStart (did (.swapped []) w) ∧ did .slotStart a = did .slotStart (did .abandoned a)
    ∧ did .syncPulse w = did .syncPulse (did (.swapped []) w) ∧ did .syncPulse a = did .syncPulse (did .abandoned a)
    ∧ did (.swapped []) w = did (.swapped []) (did .syncLost w) := by decide

theorem test_slotStart_loses_lock :
    let s : State := { State.reset with sync := { resetSync with state := .locked, missCount := 1, lostDue := true } }
    s.scheduler.timer = .starting ∧ did .slotStart s = did .slotStart (did .syncLost s)
    ∧ (did .slotStart s).sync.state = .lost ∧ (did .slotStart s).sync.missCount = 2
    ∧ (did .slotStart s).link.faults = [⟨.syncLost, none, none, none, none, none, 0, 0⟩] := by decide

theorem test_slotStart_presents_the_bank_offset :
    let e : QueueEntry := { entry .read .waiting false with address := 0x2000100, bank := .uc0 }
    let copy : BacklogEntry := ⟨.secondaryWrite [⟨0xFF, 5⟩], 0x2000200, 1, false⟩
    let t := did .slotStart (queued e .read)
    let u := did .slotStart { State.reset with mirrors := State.reset.mirrors.set .uc0 ⟨[copy], 0, 0⟩ }
    t.banks.uc0.operation = some (.portRead ⟨1, 7, 0x2000100, 0x100, 1, false⟩) ∧ t.place .uc0 0x100 = 0x2000100
    ∧ u.banks.uc0.operation = some (.secondaryWrite 0x200 [⟨0xFF, 5⟩]) := by decide

theorem test_witness_bank_decision :
    rowUsed State.reset.commit.active.geometry.split .lc1 = false
    ∧ rowUsed State.reset.commit.active.geometry.split .lc0 = true
    ∧ (State.reset.banks.get .lc0).pair = none
    ∧ ((performing none (some ⟨access false, .swap, 3, .first, some (.good 5 3)⟩) State.reset).banks.get .lc0).pair
      = some ⟨access false, .swap, 3, .first, some (.good 5 3)⟩
    ∧ State.reset.scheduler.position = 0
    ∧ ({ State.reset with banks := State.reset.banks.set .lc0 ⟨none, true, none⟩ }.banks.get .lc0).debt = true
    ∧ ¬ (State.reset.scheduler.position = 0 ∧ (State.reset.banks.get .lc0).debt = true) := by decide

theorem test_witness_backlog_service :
    let front : BacklogEntry := ⟨.recoveryRead 1 7, 0x100, 1, true⟩
    let e : BacklogEntry := ⟨.secondaryWrite [⟨0xFF, 5⟩], 0x100, 1, false⟩
    let s : State := { State.reset with mirrors := State.reset.mirrors.set .lc0 ⟨[front, e], 0, 0⟩ }
    (s.mirrors.get .lc0).entries = [front] ++ e :: [] ∧ (∀ x ∈ [front], x.performing = true) ∧ e.performing = false
    ∧ ∀ x ∈ (State.reset.mirrors.get .lc0).entries, x.performing = true := by decide

theorem test_witness_decisions_commute :
    (queued (entry .read .waiting false) .read).Tied ∧ (queued (entry .read .waiting false) .read).RefsFresh
    ∧ Bank.lc0 ≠ Bank.uc0 := by decide

theorem test_witness_banks_obey :
    let s := queued (entry .read .waiting false) .read
    s.PairsHold ∧ s.IdleBetweenSlots ∧ s.PositionInCycle ∧ s.PairsOnGrid ∧ s.scheduler.timer = .starting := by
  refine ⟨?_, ?_, ?_, ?_, ?_⟩ <;> decide

/-! ### Results at a slot end -/

theorem test_readComplete :
    let t := did (.readComplete .lc0)
      (performing (some (.portRead (access false))) none (queued (entry .read .inSlot false) .read))
    t.queues.p1 = [] ∧ t.ports.p1.completions = [⟨7, 5, .read, .done ⟨.ok, [5], false⟩⟩] ∧ t.memory = written := by decide

theorem test_readComplete_with_a_fault :
    let t := did (.readComplete .lc0)
      (performing (some (.portRead (access true))) none (spoiled (queued (entry .read .inSlot true) .read)))
    t.queues.p1 = [entry .read .recovering true] ∧ t.mirrors.uc0 = ⟨[⟨.recoveryRead 1 7, 0x2000100, 1, false⟩], 0, 0⟩
    ∧ t.link.faults = [] := by decide

theorem test_witness_read :
    let s := performing (some (.portRead (access false))) none (queued (entry .read .inSlot false) .read)
    s.scheduler.timer = .running ∧ s.Settled ∧ (s.banks.get .lc0).pair = none
    ∧ (s.banks.get .lc0).operation = some (.portRead (access false))
    ∧ s.findEntry 1 7 = some (entry .read .inSlot false)
    ∧ ∀ k < 8 * 1, s.memory.faultyAt (0x100 + k) = false := by decide

theorem test_witness_faulted_read :
    let s := spoiled (performing (some (.portRead (access true))) none (queued (entry .read .inSlot true) .read))
    let full : State := { s with mirrors := s.mirrors.set .uc0 ⟨List.replicate 8 ⟨.recoveryRead 0 0, 0, 1, false⟩, 0, 0⟩ }
    s.scheduler.timer = .running ∧ s.Settled ∧ (s.banks.get .lc0).pair = none
    ∧ (s.banks.get .lc0).operation = some (.portRead (access true)) ∧ 3 < 8 * 1 ∧ s.memory.faultyAt (0x100 + 3) = true
    ∧ s.findEntry 1 7 = some (entry .read .inSlot true)
    ∧ (s.mirrors.get .uc0).entries.length + (s.mirrors.get .uc0).reservations + (s.mirrors.get .uc0).freed < 8
    ∧ 8 ≤ (full.mirrors.get .uc0).entries.length + (full.mirrors.get .uc0).reservations + (full.mirrors.get .uc0).freed
    ∧ (did (.readComplete .lc0) full).link.faults
      = [⟨.recoveryDropped, some 1, some 5, some 0x100, some .lc0, none, 0, 2⟩] := by decide

theorem test_freed_places_wait_for_the_slot_start :
    let s := spoiled (performing (some (.portRead (access true))) none (queued (entry .read .inSlot true) .read))
    let t := did (.portReset 0) { s with
      mirrors := s.mirrors.set .uc0 ⟨List.replicate 8 ⟨.recoveryRead 0 0, 0, 1, false⟩, 0, 0⟩ }
    t.mirrors.uc0 = ⟨[], 0, 8⟩ ∧ t.mirrors.uc0.occupancy = 0 ∧ t.mirrors.uc0.hasRoom = false
    ∧ (did (.readComplete .lc0) t).link.faults = [⟨.recoveryDropped, some 1, some 5, some 0x100, some .lc0, none, 0, 2⟩]
    ∧ (run [.slotEnd .checkFirst, .slotStart] t).mirrors.uc0 = ⟨[], 0, 0⟩ := by decide

theorem test_witness_detached_read :
    let s := spoiled (performing (some (.portRead (access false))) none State.reset)
    s.Settled ∧ s.findEntry 1 7 = none ∧ s.memory.faultyAt (0x100 + 3) = true
    ∧ (did (.readComplete .lc0) s).link.faults = [] := by decide

theorem test_writeComplete :
    let t := did (.writeComplete .lc0) (performing (some (.portWrite (access true) [⟨0x03, 0xABCD⟩])) none
      (spoiled (queued (entry (.write [⟨0x03, 0xABCD⟩]) .inSlot true) .write)))
    t.memory.byteAt 0x100 = 0xCD ∧ t.memory.byteAt 0x101 = 0xAB ∧ t.memory.byteAt 0x102 = 0 ∧ t.memory.faultyAt 0x103 = true
    ∧ t.mirrors.uc0.entries = [⟨.secondaryWrite [⟨0x03, 0xABCD⟩], 0x2000100, 1, false⟩]
    ∧ t.ports.p1.completions = [⟨7, 5, .write, .done ⟨.ok, [], false⟩⟩] := by decide

theorem test_witness_write :
    let s := performing (some (.portWrite (access true) [⟨0x03, 0xABCD⟩])) none
      (queued (entry (.write [⟨0x03, 0xABCD⟩]) .inSlot true) .write)
    s.scheduler.timer = .running ∧ s.Settled ∧ (s.banks.get .lc0).pair = none
    ∧ (s.banks.get .lc0).operation = some (.portWrite (access true) [⟨0x03, 0xABCD⟩]) := by decide

theorem test_atomicReadComplete :
    let p : AtomicPair := ⟨access false, .fetchAdd, 3, .first, none⟩
    let t := did (.atomicReadComplete .lc0) (performing (some (.atomicRead (access false))) (some p)
      (queued (entry (.atomic .fetchAdd 3) .linked false) .fetchAdd))
    t.banks.lc0.pair = some { p with result := some (.good 5 8) } ∧ t.memory = written := by decide

theorem test_witness_atomic_read :
    let p : AtomicPair := ⟨access false, .swap, 3, .first, none⟩
    let s := performing (some (.atomicRead (access false))) (some p) (queued (entry (.atomic .swap 3) .linked false) .swap)
    s.scheduler.timer = .running ∧ s.Settled ∧ (s.banks.get .lc0).pair = some p ∧ p.slot = .first
    ∧ (s.banks.get .lc0).operation = some (.atomicRead (access false))
    ∧ (∀ k < 8, s.memory.faultyAt (0x100 + k) = false)
    ∧ (∃ k < 8, (spoiled s).memory.faultyAt (0x100 + k) = true)
    ∧ (did (.atomicReadComplete .lc0) (spoiled s)).banks.lc0.pair = some { p with result := some (.failed 0xFF000005) }
    ∧ s.findEntry 1 7 = some (entry (.atomic .swap 3) .linked false)
    ∧ (performing (some (.atomicRead (access false))) (some p) State.reset).findEntry 1 7 = none := by decide

theorem test_atomicPairEnd :
    let p : AtomicPair := ⟨access false, .fetchAdd, 3, .second, some (.good 5 8)⟩
    let t := did (.atomicPairEnd .lc0) (performing (some (.atomicWrite (access false) 8)) (some p)
      (queued (entry (.atomic .fetchAdd 3) .linked false) .fetchAdd))
    t.memory.readBeat 0x100 = 8 ∧ t.ports.p1.completions = [⟨7, 5, .fetchAdd, .done ⟨.ok, [5], false⟩⟩]
    ∧ t.banks.lc0.pair = none := by decide

theorem test_witness_atomic_pair :
    let good : AtomicPair := ⟨access true, .swap, 3, .second, some (.good 5 3)⟩
    let failed : AtomicPair := ⟨access true, .swap, 3, .second, some (.failed 5)⟩
    let s := performing (some (.atomicWrite (access true) 3)) (some good) (queued (entry (.atomic .swap 3) .linked true) .swap)
    let u := performing none (some failed) (queued (entry (.atomic .swap 3) .linked true) .swap)
    s.scheduler.timer = .running ∧ s.Settled ∧ (s.banks.get .lc0).pair = some good ∧ good.slot = .second
    ∧ s.findEntry 1 7 = some (entry (.atomic .swap 3) .linked true) ∧ (u.banks.get .lc0).pair = some failed
    ∧ u.Settled ∧ u.findEntry 1 7 = some (entry (.atomic .swap 3) .linked true)
    ∧ (did (.atomicPairEnd .lc0) u).mirrors.uc0.freed = 1
    ∧ (did (.atomicPairEnd .lc0) u).ports.p1.completions = [⟨7, 5, .swap, .done ⟨.dataFault, [], false⟩⟩] := by decide

theorem test_secondaryWriteComplete :
    let s := performing (some (.secondaryWrite 0x100 [⟨0x01, 9⟩])) none { State.reset with
      mirrors := State.reset.mirrors.set .lc0 ⟨[⟨.secondaryWrite [⟨0x01, 9⟩], 0x100, 1, true⟩], 0, 0⟩ }
    s.scheduler.timer = .running ∧ s.Settled ∧ (s.banks.get .lc0).pair = none
    ∧ (s.banks.get .lc0).operation = some (.secondaryWrite 0x100 [⟨0x01, 9⟩])
    ∧ (did (.secondaryWriteComplete .lc0) s).mirrors.lc0 = resetBacklog
    ∧ (did (.secondaryWriteComplete .lc0) s).memory = ⟨[(0x100, 9)], []⟩ := by decide

theorem test_recoveryReadComplete :
    let s := performing (some (.recoveryRead 0x2000100 1 1 7)) none (queued (entry .read .recovering true) .read)
    s.scheduler.timer = .running ∧ s.Settled ∧ (s.banks.get .lc0).pair = none
    ∧ (s.banks.get .lc0).operation = some (.recoveryRead 0x2000100 1 1 7)
    ∧ s.findEntry 1 7 = some (entry .read .recovering true)
    ∧ (∀ k < 8 * 1, s.memory.faultyAt (0x2000100 + k) = false)
    ∧ (did (.recoveryReadComplete .lc0) s).ports.p1.completions = [⟨7, 5, .read, .done ⟨.ok, [5], true⟩⟩]
    ∧ (did (.recoveryReadComplete .lc0) s).link.faults
      = [⟨.recovered, some 1, some 5, some 0x100, some .lc0, none, 0, 2⟩] := by decide

theorem test_witness_double_fault :
    let s := spoiled (performing (some (.recoveryRead 0x100 1 1 7)) none (queued (entry .read .recovering true) .read))
    s.Settled ∧ (∃ k < 8 * 1, s.memory.faultyAt (0x100 + k) = true)
    ∧ (performing (some (.recoveryRead 0x100 1 1 7)) none State.reset).findEntry 1 7 = none
    ∧ (did (.recoveryReadComplete .lc0) s).link.faults
      = [⟨.doubleFault, some 1, some 5, some 0x100, some .lc0, none, 0, 2⟩] := by decide

theorem test_witness_fault_queue : State.reset.link.faults.length < 16 ∧ 16 ≤ (List.replicate 16 record).length := by decide

/-! ### Slot end and cycle boundary -/

theorem test_slotEnd_plain : (did (.slotEnd .checkFirst) (performing none none State.reset)).scheduler
    = ⟨.starting, 3, 0, ⟨0, 0, 0, 0⟩, false⟩ := by decide

theorem test_slotEnd_normal :
    let t := did (.slotEnd .checkAfterExpiry) (lastSlot (queued (entry .read .waiting false) .read))
    t.scheduler = ⟨.starting, 0, 1, ⟨0, 0, 0, 0⟩, false⟩
    ∧ t.queues.p1.map (fun e => (e.age, e.expiring)) = [(1, false)] := by decide

theorem test_witness_slot_end_plain :
    let s := performing none none State.reset
    let held := performing none (some ⟨access false, .swap, 3, .first, some (.failed 5)⟩) State.reset
    s.scheduler.timer = .running ∧ s.Settled ∧ s.BanksIdle ∧ s.scheduler.forcedDue = false
    ∧ s.sync.truncationPending = false ∧ s.scheduler.position + 1 < s.slots
    ∧ held.Settled ∧ held.BanksIdle ∧ held.heldOpen = true ∧ State.reset.scheduler.timer ≠ .running := by decide

theorem test_witness_slot_end_normal :
    let s := lastSlot State.reset
    s.scheduler.timer = .running ∧ s.Settled ∧ s.BanksIdle ∧ s.scheduler.forcedDue = false
    ∧ s.sync.truncationPending = false ∧ s.slots ≤ s.scheduler.position + 1 ∧ s.commit.state ≠ .draining := by decide

theorem test_truncation :
    let s := performing none none { State.reset with sync := { resetSync with state := .locked, truncationPending := true } }
    s.scheduler.timer = .running ∧ s.Settled ∧ s.BanksIdle ∧ s.scheduler.forcedDue = false ∧ s.sync.truncationPending = true
    ∧ s.heldOpen = false ∧ s.commit.state ≠ .draining ∧ s.truncationFalls = true ∧ s.forcedFalls = false
    ∧ (did (.truncation .checkAfterExpiry) s).scheduler = ⟨.starting, 0, 1, ⟨0, 0, 0, 0⟩, false⟩
    ∧ (did (.truncation .checkAfterExpiry) s).banks.lc0.debt = true
    ∧ (did (.truncation .checkAfterExpiry) s).banks.lc1.debt = false := by decide

theorem test_forcedBoundary :
    let s := performing none none { State.reset with
      scheduler := ⟨.running, 2, 9, ⟨1, 0, 0, 0⟩, true⟩, link := { resetLink with faults := [record] } }
    s.scheduler.timer = .running ∧ s.Settled ∧ s.BanksIdle ∧ s.scheduler.forcedDue = true ∧ s.heldOpen = false
    ∧ (did .forcedBoundary s).scheduler = ⟨.starting, 0, 0, ⟨0, 0, 0, 0⟩, false⟩
    ∧ (did .forcedBoundary s).link.faults = [] ∧ (did .forcedBoundary s).banks.lc0.debt = true := by decide

theorem test_witness_no_boundary_falls : State.reset.scheduler.timer ≠ .running ∧ State.reset.sync.truncationPending = false
    ∧ State.reset.scheduler.forcedDue = false := by decide

theorem test_witness_slot_end_takes_what_falls :
    let s := performing none none { State.reset with sync := { resetSync with state := .locked, truncationPending := true } }
    let f : State := { s with scheduler := { s.scheduler with forcedDue := true } }
    s.truncationFalls = true ∧ s.forcedFalls = false ∧ f.forcedFalls = true
    ∧ did (.slotEnd .checkFirst) s = did (.truncation .checkFirst) s ∧ did (.slotEnd .checkFirst) f = did .forcedBoundary f := by decide

/-! ### Boundary reactions -/

theorem test_timeout :
    let e := { entry .read .waiting false with age := 4, expiring := true }
    let s := queued e .read
    s.RefsFresh ∧ s.Tied ∧ e.expiryDue = true ∧ (∀ n ∈ [(1 : PortId)], ∀ x ∈ State.reset.queues.get n, x.expiryDue = false)
    ∧ (did (.timeout [1]) s).queues.p1 = [] ∧ did (.timeout []) s = s ∧ did (.timeout [0, 2]) s = s
    ∧ (did (.timeout [1]) s).link.faults = [⟨.timeout, some 1, some 5, some 0x100, some .lc0, none, 0, 0⟩]
    ∧ (did (.timeout [1]) s).ports.p1.completions = [⟨7, 5, .read, .done ⟨.timeout, [], false⟩⟩] := by decide

theorem test_timeout_spares_no_younger_entry :
    let due (ref : Nat) : QueueEntry := { entry .read .waiting false with ref := ref, expiring := true }
    let list (a b : Nat) : PortFrontEnd := ⟨false, [⟨a, 3, .read, .pending⟩, ⟨b, 4, .read, .pending⟩]⟩
    let s : State := { State.reset with
      queues := ⟨[], [due 0, due 1], [due 2, due 3], []⟩, ports := ⟨resetPort, list 0 1, list 2 3, resetPort⟩, nextRef := 4 }
    let records (turns : List PortId) := (did (.timeout turns) s).link.faults.map fun r => (r.port, r.tag)
    s.RefsFresh ∧ s.Tied ∧ (run [.timeout [1], .slotStart] s).queues.p1 = []
    ∧ (run [.timeout [1], .slotStart] s).banks.lc0.operation = some (.portRead ⟨2, 2, 0x100, 0x100, 1, false⟩)
    ∧ (run [.slotStart, .timeout [1]] s).queues.p1.map (fun e => (e.ref, e.state)) = [(0, .inSlot)]
    ∧ records [1, 2] = [(some 1, some 3), (some 2, some 3), (some 1, some 4), (some 2, some 4)]
    ∧ records [1, 1, 2] = [(some 1, some 3), (some 1, some 4), (some 2, some 3), (some 2, some 4)] := by decide

theorem test_swapped :
    let s := pendingCommit .waiting pairPlan State.reset
    s.commit.reactionDue = true ∧ s.commit.state = .waiting ∧ s.sync.lostDue = false
    ∧ (∀ n : PortId, ∀ e ∈ s.queues.get n, e.lacksPair s.commit.staged n = false) ∧ s.RefsFresh ∧ s.Tied
    ∧ (did (.swapped []) s).commit.active = pairPlan
    ∧ (did (.swapped []) s).commit.record = ⟨some (.swapped, 0), true⟩ := by decide

theorem test_swapped_completes_no_link :
    let s := pendingCommit .waiting defaultPlan (paired (queued (entry (.atomic .swap 3) .waiting false) .swap))
    s.RefsFresh ∧ s.Tied ∧ s.commit.reactionDue = true ∧ s.commit.state = .waiting ∧ s.sync.lostDue = false
    ∧ (did (.swapped [1]) s).queues.p1 = []
    ∧ (did (.swapped [1]) s).link.faults = [⟨.noLink, some 1, some 5, some 0x100, some .lc0, none, 0, 0⟩]
    ∧ (did (.swapped [1]) s).ports.p1.completions = [⟨7, 5, .swap, .done ⟨.noLink, [], false⟩⟩] := by decide

theorem test_witness_geometry_swap :
    let s := pendingCommit .draining splitPlan State.reset
    s.commit.reactionDue = true ∧ s.commit.state = .draining ∧ s.sync.lostDue = false ∧ (∀ n : PortId, s.queues.get n = [])
    ∧ (∀ b ∈ allBanks, (s.mirrors.get b).entries = []) ∧ (did (.swapped []) s).commit.active = splitPlan
    ∧ State.reset.commit.reactionDue = false ∧ State.reset.commit.state = .none := by decide

theorem test_abandoned :
    let q := queued (entry .read .waiting false) .read
    let s : State := pendingCommit .draining splitPlan { q with commit := { q.commit with drainCount := 1024 } }
    s.commit.reactionDue = true ∧ s.commit.state = .draining ∧ s.queues.get 1 ≠ []
    ∧ s.commit.active.drainLimit < s.commit.drainCount + 1
    ∧ (did .abandoned s).commit.record = ⟨some (.abandoned, 0), true⟩ ∧ (did .abandoned s).commit.active = defaultPlan
    ∧ did .abandoned State.reset = State.reset := by decide

theorem test_witness_drain_counts :
    let q := queued (entry .read .waiting false) .read
    let s : State := pendingCommit .draining splitPlan { q with commit := { q.commit with drainCount := 1023 } }
    let e := lastSlot s
    s.commit.state = .draining ∧ s.drained = false ∧ s.commit.drainCount + 1 ≤ s.commit.active.drainLimit
    ∧ s.scheduler.timer = .starting ∧ s.commit.reactionDue = true
    ∧ (did .slotStart s).commit.drainCount = 1024 ∧ (did .slotStart s).commit.state = .draining
    ∧ e.scheduler.timer = .running ∧ e.Settled ∧ e.BanksIdle ∧ e.scheduler.forcedDue = false
    ∧ e.sync.truncationPending = false ∧ e.slots ≤ e.scheduler.position + 1 := by decide

theorem test_witness_boundary_reactions_made_due :
    let w := lastSlot { State.reset with commit := { resetCommit with state := .waiting } }
    let empty := lastSlot { State.reset with commit := { resetCommit with state := .draining, staged := splitPlan } }
    let q := queued (entry .read .waiting false) .read
    let drain := fun n => lastSlot { q with commit := { resetCommit with state := .draining, staged := splitPlan, drainCount := n } }
    w.scheduler.timer = .running ∧ w.forcedFalls = false ∧ w.slots ≤ w.scheduler.position + 1
    ∧ (did (.slotEnd .checkFirst) w).swapDue = true ∧ (did (.slotEnd .checkFirst) empty).swapDue = true
    ∧ (did (.slotEnd .checkFirst) (drain 1024)).abandonDue = true
    ∧ (did (.slotEnd .checkFirst) (drain 5)).commit.drainCount = 6
    ∧ (did (.slotEnd .checkFirst) (drain 5)).commit.reactionDue = false
    ∧ (did (.slotEnd .checkAfterExpiry) (drain 5)).commit.reactionDue = true
    ∧ (did (.slotEnd .checkFirst) (lastSlot State.reset)).commit.reactionDue = false := by decide

theorem test_syncPulse_takes_what_is_owed :
    let q := queued (entry .read .waiting false) .read
    let s : State := pendingCommit .draining splitPlan { q with commit := { q.commit with drainCount := 5 } }
    let l : State := { State.reset with sync := { resetSync with state := .locked, missCount := 1, lostDue := true } }
    s.scheduler.timer = .starting ∧ s.commit.reactionDue = true ∧ s.commit.state = .draining ∧ s.drained = false
    ∧ (did .syncPulse s).commit.drainCount = 6 ∧ did .syncPulse l = did .syncPulse (did .syncLost l) := by decide

theorem test_syncLost :
    let s : State := { State.reset with sync := { resetSync with state := .locked, missCount := 1, lostDue := true } }
    s.sync.lostDue = true ∧ State.reset.sync.lostDue = false ∧ (did .syncLost s).sync.state = .lost
    ∧ (did .syncLost s).sync.missCount = 2
    ∧ (did .syncLost s).link.faults = [⟨.syncLost, none, none, none, none, none, 0, 0⟩] := by decide

/-! ### Sync and capture -/

theorem test_syncPulse :
    let s := performing none none { State.reset with sync := { resetSync with state := .locked } }
    let lost := lastSlot { State.reset with sync := { resetSync with state := .lost, missCount := 2 } }
    (did .syncPulse s).sync = ⟨.locked, 1, 0, true, true, [], false, false⟩
    ∧ (did .syncPulse s).link.faults = [⟨.syncSlip, none, none, none, none, none, 0, 2⟩]
    ∧ (did .syncPulse lost).sync = ⟨.locked, 0, 0, false, true, [], false, false⟩ := by decide

theorem test_witness_sync_pulse :
    let s := performing none none { State.reset with sync := { resetSync with state := .seeking } }
    State.reset.sync.lostDue = false ∧ (State.reset.scheduler.timer = .starting → State.reset.commit.reactionDue = false)
    ∧ State.reset.sync.state = .free ∧ s.sync.lostDue = false ∧ s.scheduler.timer = .running ∧ s.sync.state ≠ .free
    ∧ s.sync.truncationPending = false ∧ s.sync.pulseMark = false ∧ s.scheduler.forcedDue = false
    ∧ s.scheduler.position + 1 < s.slots ∧ s.sync.state ≠ .locked
    ∧ (lastSlot s).slots ≤ (lastSlot s).scheduler.position + 1 := by decide

theorem test_strobeEdge :
    let s : State := { State.reset with link := { resetLink with strobeCapture := true } }
    s.scheduler.timer ≠ .stopped ∧ s.link.strobeCapture = true ∧ s.sync.captures.length < 4
    ∧ (did .strobeEdge s).sync.captures = [⟨0, 0, .free, .strobe⟩]
    ∧ (run [.strobeEdge, .strobeEdge, .strobeEdge, .strobeEdge, .strobeEdge] s).sync.captureOverflow = true
    ∧ did .strobeEdge State.reset = State.reset := by decide

theorem test_captureNow :
    let s := receiving State.reset
    s.Receives [0x04] (checkByte [0x04]) ∧ s.sync.captures.length < 4
    ∧ (did (.captureNow (checkByte [0x04])) s).sync.captures = [⟨0, 0, .free, .command⟩]
    ∧ 4 ≤ (List.replicate 4 (⟨0, 0, .free, .command⟩ : CaptureRecord)).length := by decide

/-! ### Management link -/

theorem test_frameOpen : (did .frameOpen State.reset).link.receiver = .receiving
    ∧ (did .frameOpen (did .powerOnReset State.reset)).link.receiver = .idle
    ∧ State.reset.link.selectActive = false ∧ (receiving State.reset).link.selectActive = true := by decide

theorem test_selectRelease : did .selectRelease (receiving State.reset) = State.reset := by decide

theorem test_replySpent : (run [.readFault (checkByte [0x02]), .replySpent] (receiving State.reset)).link.receiver = .spent
    ∧ did .replySpent State.reset = State.reset := by decide

theorem test_badCommand : (did (.badCommand 0x22) (receiving State.reset)).link.receiver = .replying [0x03, checkByte [0x03]]
    ∧ (0x22#8) ∉ [0x01#8, 0x02#8, 0x03#8, 0x04#8, 0x10#8, 0x11#8, 0x12#8, 0x13#8, 0x14#8, 0x18#8, 0x20#8, 0x21#8,
        0x30#8, 0x31#8, 0x3C#8] ∧ (receiving State.reset).link.receiver = .receiving := by decide

theorem test_witness_frame_receiver : (did .powerOnReset State.reset).link.selectActive = false
    ∧ (did .powerOnReset State.reset).scheduler.timer = .stopped
    ∧ (run [.readFault (checkByte [0x02])] (receiving State.reset)).link.receiver = .replying [0x05, checkByte [0x05]] := by decide

theorem test_dataOutput :
    let s := receiving State.reset
    let t := did (.badCommand 0x22) s
    State.reset.dataOutput 0 = none ∧ s.dataOutput 0 = some 0 ∧ t.dataOutput 0 = some 0x03 ∧ t.dataOutput 1 = some (checkByte [0x03])
    ∧ t.dataOutput 2 = some 0 ∧ (did .replySpent t).dataOutput 0 = some 0 ∧ (did .powerOnReset t).dataOutput 0 = none
    ∧ (did .powerOnReset t).scheduler.timer = .stopped ∧ t.link.receiver = .replying [0x03, checkByte [0x03]] := by decide

theorem test_witness_wrong_check_byte : frameOf (.readStatus 0x08) = some ([0x01], 0x08)
    ∧ (receiving State.reset).link.receiver = .receiving ∧ (0x08 : Byte) ≠ checkByte [0x01]
    ∧ State.reset.link.receiver ≠ .receiving
    ∧ (did (.readStatus 0x08) (receiving State.reset)).link.receiver = .replying [0x02, checkByte [0x02]] := by decide

theorem test_witness_busy :
    let s := receiving (pendingCommit .waiting defaultPlan State.reset)
    frameOf (.restage (checkByte [0x14])) = some ([0x14], checkByte [0x14])
    ∧ busyDuringCommit (.restage (checkByte [0x14])) = true ∧ s.Receives [0x14] (checkByte [0x14]) ∧ s.commit.state ≠ .none
    ∧ (did (.restage (checkByte [0x14])) s).link.receiver = .replying [0x01, checkByte [0x01]] := by decide

theorem test_witness_bad_arguments :
    let s := receiving State.reset
    let replied := fun c : Instr => (did c s).link.receiver = .replying [0x04, checkByte [0x04]]
    s.commit.state = .none
    ∧ replied (.writeGrid 4 0 0 (checkByte [0x10, 4, 0, 0])) ∧ replied (.writeGrid 0 8 0 (checkByte [0x10, 0, 8, 0]))
    ∧ replied (.writeGrid 0 0 8 (checkByte [0x10, 0, 0, 8])) ∧ replied (.writePortLimit 4 0 (checkByte [0x13, 4, 0]))
    ∧ replied (.readPlan 2 0 (checkByte [0x18, 2, 0])) ∧ replied (.readPlan 0 4 (checkByte [0x18, 0, 4]))
    ∧ replied (.readPlan 0 0x22 (checkByte [0x18, 0, 0x22])) ∧ replied (.setAlertMask 8 (checkByte [0x30, 8]))
    ∧ replied (.setStrobe 2 (checkByte [0x31, 2])) := by decide

theorem test_witness_bad_images :
    let s := receiving State.reset
    let replied := fun c : Instr => (did c s).link.receiver = .replying [0x04, checkByte [0x04]]
    replied (.writeRegion 16 #v[0, 0, 0, 0, 0, 0] (checkByte [0x11, 16, 0, 0, 0, 0, 0, 0]))
    ∧ replied (.writeRegion 0 #v[0, 0, 0, 0, 4, 0] (checkByte [0x11, 0, 0, 0, 0, 0, 4, 0]))
    ∧ replied (.writeGeometry #v[5, 0, 4, 0] (checkByte [0x12, 5, 0, 4, 0]))
    ∧ replied (.writeGeometry #v[8, 32, 4, 0] (checkByte [0x12, 8, 32, 4, 0]))
    ∧ replied (.writeGeometry #v[8, 0, 0, 0] (checkByte [0x12, 8, 0, 0, 0]))
    ∧ replied (.writeGeometry #v[8, 0, 16, 0] (checkByte [0x12, 8, 0, 16, 0])) := by decide

theorem test_writeGrid :
    let s := receiving State.reset
    s.commit.state = .none ∧ s.Receives [0x10, 2, 7, 5] (checkByte [0x10, 2, 7, 5])
    ∧ ((did (.writeGrid 2 7 5 (checkByte [0x10, 2, 7, 5])) s).commit.staged.grid.get .uc0).codeAt 7 = .mirror
    ∧ (did (.writeGrid 2 7 5 (checkByte [0x10, 2, 7, 5])) s).commit.active = defaultPlan := by decide

theorem test_writeRegion :
    let t := did (.writeRegion 15 #v[0x12, 0x34, 0x56, 0x78, 3, 0x9A] (checkByte [0x11, 15, 0x12, 0x34, 0x56, 0x78, 3, 0x9A]))
      (receiving State.reset)
    t.commit.staged.region 15 = ⟨true, 0x1234, 0x5678, 9, 10, true⟩ ∧ t.commit.staged.region 14 = defaultRegion := by decide

theorem test_writeGeometry :
    let t := did (.writeGeometry #v[4, 0x1F, 0x0F, 0xFF] (checkByte [0x12, 4, 0x1F, 0x0F, 0xFF])) (receiving State.reset)
    t.commit.staged.general = ⟨⟨.four, true, .mib128, .static⟩, true, .deny, 4095⟩ := by decide

theorem test_writePortLimit :
    let t := did (.writePortLimit 3 255 (checkByte [0x13, 3, 255])) (receiving State.reset)
    t.commit.staged.waitLimits = ⟨0, 0, 0, 255⟩ := by decide

theorem test_restage :
    let s := receiving { State.reset with commit := { resetCommit with staged := splitPlan } }
    s.commit.state = .none ∧ s.Receives [0x14] (checkByte [0x14])
    ∧ (did (.restage (checkByte [0x14])) s).commit.staged = defaultPlan := by decide

theorem test_readPlan :
    let s := receiving State.reset
    s.Receives [0x18, 1, 0x20] (checkByte [0x18, 1, 0x20]) ∧ (1 : Byte).toNat ≤ 1
    ∧ (did (.readPlan 1 0x20 (checkByte [0x18, 1, 0x20])) s).link.receiver
      = .replying [0, 0x08, 0x00, 0x04, 0x00, checkByte [0, 0x08, 0x00, 0x04, 0x00]]
    ∧ (did (.readPlan 0 0 (checkByte [0x18, 0, 0])) s).link.receiver
      = .replying [0, 0x44, 0x44, 0x44, 0x46, checkByte [0, 0x44, 0x44, 0x44, 0x46]] := by decide

theorem test_witness_staged_edits : (3 : Byte).toNat = rowNumber .uc1 ∧ (7 : Byte).toNat = (7 : Fin 8).val
    ∧ (7 : Byte).toNat = SlotCode.idle.value ∧ (15 : Byte).toNat = (15 : Fin 16).val ∧ (3 : Byte).toNat < 4
    ∧ (4 : Byte).toNat = CycleLength.four.slots ∧ (31 : Byte).toNat < 32
    ∧ 0 < 256 * (0x0F : Byte).toNat + (0xFF : Byte).toNat ∧ 256 * (0x0F : Byte).toNat + (0xFF : Byte).toNat ≤ 4095
    ∧ (3 : Byte).toNat = (3 : PortId).val := by decide

theorem test_witness_plan_items : (3 : Byte).toNat = rowNumber .uc1 ∧ (16 : Byte).toNat = 16 + (0 : Fin 16).val
    ∧ (31 : Byte).toNat = 16 + (15 : Fin 16).val ∧ (0x20 : Byte).toNat = 0x20 ∧ (0x21 : Byte).toNat = 0x21 := by decide

theorem test_witness_plan_in_range : defaultPlan.InRange := by decide

theorem test_commit :
    let s := receiving State.reset
    let c := checkByte [0x20]
    let staged := fun p : Plan => receiving { State.reset with commit := { resetCommit with staged := p } }
    let unrefreshed : Plan := { splitPlan with grid := { defaultPlan.grid with lc0 := defaultUnusedRow } }
    s.commit.state = .none ∧ s.Receives [0x20] c ∧ validate s.commit.staged = none ∧ (did (.commit c) s).commit.state = .waiting
    ∧ validate unrefreshed = some (.noRefresh .lc0)
    ∧ (did (.commit c) (staged unrefreshed)).commit.record = ⟨some (.refused (.noRefresh .lc0), 0), true⟩
    ∧ (did (.commit c) (staged unrefreshed)).link.receiver
      = .replying [0, 0x02, 0x01, 0x00, checkByte [0, 0x02, 0x01, 0x00]] := by decide

theorem test_witness_validation_failures :
    let unturned := { splitPlan with grid := { splitPlan.grid with
      lc0 := ⟨#v[.openSlot, .port 1, .port 1, .idle, .port 2, .port 2, .idle, .refresh]⟩
      lc1 := splitPlan.grid.lc0, uc1 := splitPlan.grid.uc0 } }
    let entered := fun e : RegionEntry => validate { pairPlan with regions := pairPlan.regions.set 3 e }
    validate unturned = some (.noTurnaround .lc0 1) ∧ entered ⟨true, 2, 1, 0, 0, false⟩ = some (.regionOrder 3)
    ∧ entered ⟨true, 0, 16384, 0, 0, false⟩ = some (.regionRange 3)
    ∧ entered ⟨true, 8191, 8192, 0, 0, true⟩ = some (.mirrorSpan 3) ∧ entered ⟨true, 8191, 8192, 0, 0, false⟩ = none := by decide

theorem test_commit_drains :
    let four : Plan := { defaultPlan with
      geometry := ⟨.four, false, .mib64, .static⟩ }
    let s := receiving { State.reset with commit := { resetCommit with staged := four } }
    validate four = none ∧ four.geometry ≠ s.commit.active.geometry
    ∧ (did (.commit (checkByte [0x20])) s).commit.state = .draining
    ∧ (did (.commit (checkByte [0x20])) s).gateOpen 0 = false := by decide

theorem test_cancelCommit :
    let s := receiving (pendingCommit .draining splitPlan State.reset)
    s.Receives [0x21] (checkByte [0x21]) ∧ s.commit.state ≠ .none ∧ s.scheduler.timer ≠ .stopped
    ∧ (s.ports.get 0).resetLine = false ∧ (s.ports.get 0).completions.length < 8
    ∧ (did (.cancelCommit (checkByte [0x21])) s).commit.record = ⟨some (.cancelled, 0), true⟩
    ∧ (receiving State.reset).commit.state = .none := by decide

theorem test_readStatus :
    let s := receiving State.reset
    s.Receives [0x01] 0x07 ∧ (did (.readStatus 0x07) s).link.receiver
      = .replying [0, 0, 0, 0, 0, 0, 0, 0, 0, 0, 0, 0, 7, checkByte [0, 0, 0, 0, 0, 0, 0, 0, 0, 0, 0, 0, 7]] := by decide

theorem test_witness_status_block : State.reset.WithinCapacity ∧ State.reset.CountersInRange
    ∧ ({ State.reset with commit := { resetCommit with record := ⟨some (.abandoned, 0x1234), true⟩ } } : State).statusBlock.take 5
      = [0x34, 0, 0, 0x12, 0x34] := by decide

theorem test_readFault :
    let s := receiving { State.reset with link := { resetLink with faults := [record] } }
    s.Receives [0x02] (checkByte [0x02]) ∧ s.link.faults = record :: [] ∧ State.reset.link.faults = []
    ∧ faultImage record = [0x05, 0x03, 0x15, 0, 0, 0x01, 0x00, 0x00, 0, 3, 0]
    ∧ (did (.readFault (checkByte [0x02])) s).link.faults = [] := by decide

theorem test_readCapture :
    let r : CaptureRecord := ⟨0x102, 3, .locked, .command⟩
    let s := receiving { State.reset with sync := { resetSync with captures := [r] } }
    s.Receives [0x03] (checkByte [0x03]) ∧ s.sync.captures = r :: [] ∧ State.reset.sync.captures = []
    ∧ captureImage r = [0x01, 0x02, 0x03, 0x82] ∧ (did (.readCapture (checkByte [0x03])) s).sync.captures = [] := by decide

theorem test_setAlertMask :
    let s := receiving { State.reset with link := { resetLink with faults := [record] } }
    s.alert = true ∧ s.Receives [0x30, 6] (checkByte [0x30, 6]) ∧ (6 : Byte).toNat < 8
    ∧ (did (.setAlertMask 6 (checkByte [0x30, 6])) s).link.alertMask = ⟨false, true, true⟩
    ∧ (did (.setAlertMask 6 (checkByte [0x30, 6])) s).alert = false := by decide

theorem test_setStrobe :
    let s := receiving State.reset
    s.Receives [0x31, 1] (checkByte [0x31, 1]) ∧ (1 : Byte).toNat < 2
    ∧ (did (.setStrobe 1 (checkByte [0x31, 1])) s).link.strobeCapture = true := by decide

theorem test_trafficReset :
    let s := receiving (performing none none (queued (entry .read .waiting false) .read))
    let t := did (.trafficReset (checkByte [0x3C])) s
    s.Receives [0x3C] (checkByte [0x3C]) ∧ s.scheduler.timer ≠ .starting ∧ t.queues.p1 = [] ∧ t.ports.p1.completions = []
    ∧ t.scheduler.forcedDue = true ∧ t.memory = written := by decide

theorem test_witness_traffic_reset_at_a_slot_start :
    (receiving State.reset).Receives [0x3C] (checkByte [0x3C])
    ∧ did (.trafficReset (checkByte [0x3C])) (receiving State.reset)
      = did (.trafficReset (checkByte [0x3C])) (did .slotStart (receiving State.reset)) := by decide

/-! ### Memory -/

theorem test_memoryDeviceChange :
    let t := did (.memoryDeviceChange 0x103 1) (queued (entry .read .waiting false) .read)
    t.memory.byteAt 0x103 = 1 ∧ t.memory.faultyAt 0x103 = true ∧ t.memory.faultyAt 0x104 = false ∧ t.memory.wf = true := by decide

theorem test_witness_device_change : (0x7FFFFFF : Address).toNat < 0x8000000 ∧ 0x8000000 ≤ (0x8000000 : Address).toNat := by decide

theorem test_witness_memory_writers :
    let s := performing (some (.portWrite (access false) [⟨0x01, 9⟩])) none
      (queued (entry (.write [⟨0x01, 9⟩]) .inSlot false) .write)
    s.PairsHold ∧ (did (.writeComplete .lc0) s).memory ≠ s.memory := by decide

/-! ### Invariants -/

theorem test_witness_invariants : State.reset.MemoryCanonical ∧ State.reset.PlansValid ∧ State.reset.Tied
    ∧ State.reset.RefsFresh ∧ State.reset.WithinCapacity := by
  refine ⟨?_, ?_, ?_, ?_, ?_⟩ <;> decide

theorem test_witness_invariants_of_the_banks : State.reset.ReservationsOwed ∧ State.reset.PairsHold
    ∧ State.reset.IdleBetweenSlots ∧ State.reset.PositionInCycle ∧ State.reset.CountersInRange
    ∧ State.reset.SyncConsistent ∧ State.reset.QuietInReset := by
  refine ⟨?_, ?_, ?_, ?_, ?_, ?_, ?_⟩ <;> decide

theorem test_witness_invariants_of_the_work : State.reset.PairsOnGrid ∧ State.reset.GrantsTied ∧ State.reset.RecoveriesTied
    ∧ State.reset.MarksTied ∧ State.reset.ResetPortsEmpty := by
  refine ⟨?_, ?_, ?_, ?_, ?_⟩ <;> decide

theorem test_linked_atomic_is_tied :
    let s := did .slotStart (paired (queued (entry (.atomic .swap 3) .waiting true) .swap))
    let t := run [.slotEnd .checkFirst, .slotStart] s
    s.PairsOnGrid ∧ s.GrantsTied ∧ t.PairsOnGrid ∧ t.GrantsTied
    ∧ t.banks.lc0.operation = some (.atomicWrite (access true) 3) ∧ t.currentCode .lc0 = .port 1 := by
  refine ⟨?_, ?_, ?_, ?_, ?_, ?_⟩ <;> decide

theorem test_recovery_is_tied :
    let s := performing (some (.portRead (access true))) none (spoiled (queued (entry .read .inSlot true) .read))
    let t := did (.slotEnd .checkFirst) s
    let u := did .slotStart t
    s.GrantsTied ∧ t.RecoveriesTied ∧ t.queues.p1 = [entry .read .recovering true]
    ∧ u.MarksTied ∧ u.RecoveriesTied ∧ (did (.portReset 1) u).RecoveriesTied ∧ (did (.portReset 1) u).ResetPortsEmpty
    ∧ (did (.portReset 1) u).mirrors.uc0.entries.length = 1 := by
  refine ⟨?_, ?_, ?_, ?_, ?_, ?_, ?_, ?_⟩ <;> decide

end Sys2Proof.Tests
end

section
/-! SUPPORT. What a read returns and what a write stores, lane by lane; what a request's end leaves of its queue and of its completion
list, in the spelling of the statements; what a bank hands back at a slot end, one equation for each operation. -/

namespace Sys2Proof.Machine

/-! ### Memory, lane by lane -/

/-- Lane `k` of beat `j` read is the byte at its place (R98). -/
theorem Memory.laneOf_readBeats (m : Memory) (x n : Nat) {j : Nat} {d : Beat} (k : Fin 8)
    (h : (m.readBeats x n)[j]? = some d) : laneOf d k = m.byteAt (x + 8 * j + k) := by
  induction n generalizing x j with
  | zero => simp [Memory.readBeats] at h
  | succ n ih =>
    cases j with
    | zero =>
      obtain rfl : m.readBeat x = d := by simpa [Memory.readBeats] using h
      exact m.laneOf_readBeat x k
    | succ j =>
      rw [show x + 8 * (j + 1) + k = x + 8 + 8 * j + k by omega]
      exact ih (x + 8) (by simpa [Memory.readBeats] using h)

theorem Memory.parityFault_of_faulty {m : Memory} {x length : Nat}
    (h : ∃ k < 8 * length, m.faultyAt (x + k) = true) : m.parityFault x length = true :=
  (m.anyFaulty_iff x _).mpr h

theorem Memory.parityFault_of_good {m : Memory} {x length : Nat}
    (h : ∀ k < 8 * length, m.faultyAt (x + k) = false) : m.parityFault x length = false := by
  rw [Bool.eq_false_iff, Memory.parityFault, Ne, Memory.anyFaulty_iff]
  rintro ⟨k, hk, hf⟩
  rw [h k hk] at hf
  cases hf

/-- Beat `j` of a write holds the bytes from offset `8 * j` on. -/
theorem beatHolding_of_getElem? (x : Nat) {beats : List WriteBeat} {j : Nat} {w : WriteBeat} (k : Fin 8)
    (h : beats[j]? = some w) : beatHolding x beats (x + 8 * j + k) = some w := by
  have hj : (x + 8 * j + k - x) / 8 = j := by omega
  rw [beatHolding, if_pos (by omega), hj, h]

/-- An enabled lane of a written beat takes its data with good parity (R97). -/
theorem Memory.writeBeats_of_enabled (m : Memory) (x : Nat) {beats : List WriteBeat} {j : Nat} {w : WriteBeat} (k : Fin 8)
    (h : beats[j]? = some w) (he : w.enables.getLsbD k = true) :
    (m.writeBeats x beats).byteAt (x + 8 * j + k) = laneOf w.data k
      ∧ (m.writeBeats x beats).faultyAt (x + 8 * j + k) = false := by
  have hk : (x + 8 * j + k - x) % 8 = k := by omega
  rw [Memory.byteAt_writeBeats, Memory.faultyAt_writeBeats, beatHolding_of_getElem? x k h]
  simp only [hk, he, if_true, and_self]

/-- A disabled lane of a written beat keeps its value and its parity state (R97). -/
theorem Memory.writeBeats_of_disabled (m : Memory) (x : Nat) {beats : List WriteBeat} {j : Nat} {w : WriteBeat} (k : Fin 8)
    (h : beats[j]? = some w) (he : w.enables.getLsbD k = false) :
    (m.writeBeats x beats).byteAt (x + 8 * j + k) = m.byteAt (x + 8 * j + k)
      ∧ (m.writeBeats x beats).faultyAt (x + 8 * j + k) = m.faultyAt (x + 8 * j + k) := by
  have hk : (x + 8 * j + k - x) % 8 = k := by omega
  rw [Memory.byteAt_writeBeats, Memory.faultyAt_writeBeats, beatHolding_of_getElem? x k h]
  simp only [hk, he, Bool.false_eq_true, if_false, and_self]

/-! ### Entries by their reference -/

theorem filter_not_hasRef (l : List QueueEntry) (ref : Nat) :
    (l.filter fun e => !e.hasRef ref) = l.filter fun e => decide (e.ref ≠ ref) := by
  simp only [QueueEntry.hasRef, decide_not]

section
variable (s : State)

/-- The end of a request, its references compared as numbers (4.4, R158). -/
theorem State.finishEntry_eq_of_ref (n : PortId) (ref : Nat) (r : CompletionResult) :
    s.finishEntry n ref r = { s with
      queues := s.queues.set n ((s.queues.get n).filter fun x => decide (x.ref ≠ ref))
      ports := s.ports.set n { s.ports.get n with
        completions := (s.ports.get n).completions.map fun c =>
          if c.ref = ref ∧ c.state = .pending then { c with state := .done r } else c } } := by
  rw [State.finishEntry_eq, filter_not_hasRef]
  rfl

theorem State.updateEntry_eq_of_ref (n : PortId) (ref : Nat) (f : QueueEntry → QueueEntry) :
    s.updateEntry n ref f =
      { s with queues := s.queues.set n ((s.queues.get n).map fun e => if e.ref = ref then f e else e) } := by
  simp only [State.updateEntry_eq, QueueEntry.hasRef, decide_eq_true_eq]

/-- Nothing of a detached request stands in the queue (R70). -/
theorem State.filter_of_findEntry_none {n : PortId} {ref : Nat} (h : s.findEntry n ref = none) :
    ((s.queues.get n).filter fun x => decide (x.ref ≠ ref)) = s.queues.get n := by
  rw [State.findEntry, List.find?_eq_none] at h
  rw [List.filter_eq_self]
  intro e he
  simpa [QueueEntry.hasRef] using h e he

theorem State.ref_of_findEntry {n : PortId} {ref : Nat} {e : QueueEntry} (h : s.findEntry n ref = some e) : e.ref = ref := by
  simpa [QueueEntry.hasRef] using List.find?_some h

/-- The end of an access, detached or not (R61, R62, R46; R70). -/
theorem State.finishAccess_eq (a : PortAccess) (r : CompletionResult) :
    s.finishAccess a r = { s with
      queues := s.queues.set a.port ((s.queues.get a.port).filter fun x => decide (x.ref ≠ a.ref))
      ports := if s.findEntry a.port a.ref = none then s.ports else s.ports.set a.port
        { s.ports.get a.port with
          completions := (s.ports.get a.port).completions.map fun c =>
            if c.ref = a.ref ∧ c.state = .pending then { c with state := .done r } else c } } := by
  cases h : s.findEntry a.port a.ref with
  | none => simp only [State.finishAccess, h, if_true, s.filter_of_findEntry_none h, PerPort.set_get_self]
  | some e => simp only [State.finishAccess, h, reduceCtorEq, if_false, s.finishEntry_eq_of_ref]

/-! ### What a bank hands back -/

variable {s} {b : Bank}

theorem Sequencer.pairIn_of_no_pair {q : Sequencer} (h : q.pair = none) (slot : PairSlot) : q.pairIn slot = none := by
  rw [Sequencer.pairIn, h, Option.filter_none]

theorem Sequencer.pairIn_of_slot {q : Sequencer} {p : AtomicPair} (h : q.pair = some p) : q.pairIn p.slot = some p := by
  simp [Sequencer.pairIn, h]

theorem Sequencer.pairIn_of_other_slot {q : Sequencer} {p : AtomicPair} {slot : PairSlot} (h : q.pair = some p)
    (hs : p.slot ≠ slot) : q.pairIn slot = none := by
  simp [Sequencer.pairIn, h, hs]

/-- Nothing is taken before a result where nothing is owed (log entry 4). -/
theorem State.Settled.settle_eq (h : s.Settled) : s.settle = s := s.settle_of_nothing_owed h.1 h.2

theorem State.inSlot_of_running (h : s.scheduler.timer = .running) : s.inSlot = true := decide_eq_true h

section
variable (ht : s.scheduler.timer = .running) (hs : s.Settled) (hp : (s.banks.get b).pair = none)
include ht hs hp

theorem exec_readComplete_of_due {a : PortAccess} (ho : (s.banks.get b).operation = some (.portRead a)) :
    exec (.readComplete b) s = .next (s.endRead b a) := by
  simp only [exec, execReadComplete, State.inSlot_of_running ht, ho, hs.settle_eq, State.endBank,
    Sequencer.pairIn_of_no_pair hp]

theorem exec_writeComplete_of_due {a : PortAccess} {beats : List WriteBeat}
    (ho : (s.banks.get b).operation = some (.portWrite a beats)) :
    exec (.writeComplete b) s = .next (s.endWrite b a beats) := by
  simp only [exec, execWriteComplete, State.inSlot_of_running ht, ho, hs.settle_eq, State.endBank,
    Sequencer.pairIn_of_no_pair hp]

theorem exec_secondaryWriteComplete_of_due {offset : Nat} {beats : List WriteBeat}
    (ho : (s.banks.get b).operation = some (.secondaryWrite offset beats)) :
    exec (.secondaryWriteComplete b) s = .next (s.endSecondary b offset beats) := by
  simp only [exec, execSecondaryWriteComplete, State.inSlot_of_running ht, ho, hs.settle_eq, State.endBank,
    Sequencer.pairIn_of_no_pair hp]

theorem exec_recoveryReadComplete_of_due {offset length : Nat} {n : PortId} {ref : Nat}
    (ho : (s.banks.get b).operation = some (.recoveryRead offset length n ref)) :
    exec (.recoveryReadComplete b) s = .next (s.endRecovery b offset length n ref) := by
  simp only [exec, execRecoveryReadComplete, State.inSlot_of_running ht, ho, hs.settle_eq, State.endBank,
    Sequencer.pairIn_of_no_pair hp]

end

section
variable {p : AtomicPair} (ht : s.scheduler.timer = .running) (hs : s.Settled) (hp : (s.banks.get b).pair = some p)
include ht hs hp

theorem exec_atomicReadComplete_of_due {a : PortAccess} (h1 : p.slot = .first)
    (ho : (s.banks.get b).operation = some (.atomicRead a)) :
    exec (.atomicReadComplete b) s = .next (s.endAtomicRead b p) := by
  have hfirst : (s.banks.get b).pairIn .first = some p := h1 ▸ Sequencer.pairIn_of_slot hp
  have hsecond : (s.banks.get b).pairIn .second = none := Sequencer.pairIn_of_other_slot hp (by simp [h1])
  simp only [exec, execAtomicReadComplete, State.inSlot_of_running ht, ho, hs.settle_eq, State.endBank, hfirst, hsecond]

theorem exec_atomicPairEnd_of_due (h2 : p.slot = .second) : exec (.atomicPairEnd b) s = .next (s.endPair b p) := by
  have hsecond : (s.banks.get b).pairIn .second = some p := h2 ▸ Sequencer.pairIn_of_slot hp
  simp only [exec, execAtomicPairEnd, State.inSlot_of_running ht, hs.settle_eq, State.endBank, hsecond]

end

end

end Sys2Proof.Machine
end

section
/-! SUPPORT. The result of a READ, of a mirrored WRITE or atomic and of the backlog's operations, each by the cases of its rules, and the
statements about the results at a slot end (O24 to O29). -/

namespace Sys2Proof.Machine

section
variable {s : State} {b : Bank} {a : PortAccess}

/-! ### READ_COMPLETE (R61, R70, R84, R85) -/

theorem State.endRead_of_detached (h : s.findEntry a.port a.ref = none) : s.endRead b a = s.clearOperation b := by
  have h' : (s.clearOperation b).findEntry a.port a.ref = none := h
  simp only [State.endRead, h']

theorem State.endRead_of_good {e : QueueEntry} (h : s.findEntry a.port a.ref = some e)
    (hg : s.memory.parityFault (s.place b a.offset) a.length = false) :
    s.endRead b a = (s.clearOperation b).finishEntry a.port a.ref
      (readResult (s.memory.readBeats (s.place b a.offset) a.length) false) := by
  have h' : (s.clearOperation b).findEntry a.port a.ref = some e := h
  have hg' : (s.clearOperation b).memory.parityFault (s.place b a.offset) a.length = false := hg
  simp only [State.endRead, h', hg', Bool.false_eq_true, if_false]
  rfl

theorem State.endRead_of_faulty {e : QueueEntry} (h : s.findEntry a.port a.ref = some e)
    (hf : s.memory.parityFault (s.place b a.offset) a.length = true) :
    s.endRead b a = (s.clearOperation b).faultedRead b a e := by
  have h' : (s.clearOperation b).findEntry a.port a.ref = some e := h
  have hf' : (s.clearOperation b).memory.parityFault (s.place b a.offset) a.length = true := hf
  simp only [State.endRead, h', hf', if_true]

theorem State.faultedRead_of_unmirrored {e : QueueEntry} (h : e.mirror = false) :
    s.faultedRead b a e = s.failEntry a.port e .dataFault .dataFault s.scheduler.position := by
  simp only [State.faultedRead, State.endingPosition, h, Bool.not_false, if_true]

theorem State.faultedRead_of_room {e : QueueEntry} (h : e.mirror = true) (hr : (s.mirrors.get (partnerBank b)).hasRoom = true) :
    s.faultedRead b a e = (s.appendRecovery b e.address e.length a.port e.ref).updateEntry a.port e.ref
      fun x => { x with state := .recovering } := by
  simp only [State.faultedRead, h, hr, Bool.not_true, Bool.false_eq_true, if_false, if_true]

theorem State.faultedRead_of_full {e : QueueEntry} (h : e.mirror = true) (hr : (s.mirrors.get (partnerBank b)).hasRoom = false) :
    s.faultedRead b a e = s.failEntry a.port e .dataFault .recoveryDropped s.scheduler.position := by
  simp only [State.faultedRead, State.endingPosition, h, hr, Bool.not_true, Bool.false_eq_true, if_false]

theorem Backlog.hasRoom_iff (l : Backlog) : l.hasRoom = true ↔ l.entries.length + l.reservations + l.freed < 8 :=
  decide_eq_true_iff

theorem Backlog.hasRoom_eq_false_iff (l : Backlog) : l.hasRoom = false ↔ 8 ≤ l.entries.length + l.reservations + l.freed :=
  decide_eq_false_iff_not.trans Nat.not_lt

/-! ### WRITE_COMPLETE (R62, R70, R77) -/

/-- The primary write, and the copy that a mirrored one appends in the place of its reservation (R62, R77). -/
theorem State.primaryWrite_eq (s : State) (b : Bank) (a : PortAccess) (beats : List WriteBeat) :
    s.primaryWrite b a beats = { s with
      memory := s.memory.writeBeats (s.place b a.offset) beats
      mirrors := if a.mirror then s.mirrors.set (partnerBank b)
          { s.mirrors.get (partnerBank b) with
            entries := (s.mirrors.get (partnerBank b)).entries
              ++ [⟨.secondaryWrite beats, partnerAddress s.commit.active.geometry a.address, beats.length, false⟩]
            reservations := (s.mirrors.get (partnerBank b)).reservations - 1 }
        else s.mirrors } := by
  cases h : a.mirror <;> simp only [State.primaryWrite, h] <;> rfl

/-! ### ATOMIC_READ_COMPLETE and ATOMIC_PAIR_END (R45 to R47, R78) -/

theorem State.atomicOutcome_of_good {p : AtomicPair} (h : s.memory.parityFault (s.place b p.access.offset) 1 = false) :
    s.atomicOutcome b p = .good (s.memory.readBeat (s.place b p.access.offset))
      (p.kind.newValue (s.memory.readBeat (s.place b p.access.offset)) p.operand) := by
  simp only [State.atomicOutcome, h, Bool.false_eq_true, if_false]

theorem State.atomicOutcome_of_faulty {p : AtomicPair} (h : s.memory.parityFault (s.place b p.access.offset) 1 = true) :
    s.atomicOutcome b p = .failed (s.memory.readBeat (s.place b p.access.offset)) := by
  simp only [State.atomicOutcome, h, if_true]

theorem enables_fullBeat (d : Beat) (k : Fin 8) : (fullBeat d).enables.getLsbD k = true := by
  have all : ∀ i : Fin 8, (0xFF : BitVec 8).getLsbD i = true := by decide
  exact all k

theorem State.reportFailedAtomic_of_detached {r : AtomicResult} (h : s.findEntry a.port a.ref = none) :
    s.reportFailedAtomic a r = s := by
  cases r <;> simp only [State.reportFailedAtomic, h]

theorem State.reportFailedAtomic_of_found {e : QueueEntry} (oldValue : Beat) (h : s.findEntry a.port a.ref = some e) :
    s.reportFailedAtomic a (.failed oldValue) = s.reportEntry .dataFault a.port e s.scheduler.position := by
  simp only [State.reportFailedAtomic, h, State.endingPosition]

end

section
variable {s : State} {b : Bank} {offset length : Nat} {n : PortId} {ref : Nat}

/-! ### RECOVERY_READ_COMPLETE (R80, R86, R87, R92) -/

theorem State.endRecovery_of_removed (h : s.findEntry n ref = none) :
    s.endRecovery b offset length n ref = (s.clearOperation b).removePerformed b := by
  have h' : ((s.clearOperation b).removePerformed b).findEntry n ref = none := h
  simp only [State.endRecovery, h']

theorem State.endRecovery_of_good {e : QueueEntry} (h : s.findEntry n ref = some e)
    (hg : s.memory.parityFault (s.place b offset) length = false) :
    s.endRecovery b offset length n ref =
      (((s.clearOperation b).removePerformed b).reportEntry .recovered n e s.scheduler.position).finishEntry n ref
        (readResult (s.memory.readBeats (s.place b offset) length) true) := by
  have h' : ((s.clearOperation b).removePerformed b).findEntry n ref = some e := h
  have hg' : ((s.clearOperation b).removePerformed b).memory.parityFault (s.place b offset) length = false := hg
  simp only [State.endRecovery, h', hg', Bool.false_eq_true, if_false]
  rfl

theorem State.endRecovery_of_faulty {e : QueueEntry} (h : s.findEntry n ref = some e)
    (hf : s.memory.parityFault (s.place b offset) length = true) :
    s.endRecovery b offset length n ref =
      ((s.clearOperation b).removePerformed b).failEntry n e .dataFault .doubleFault s.scheduler.position := by
  have h' : ((s.clearOperation b).removePerformed b).findEntry n ref = some e := h
  have hf' : ((s.clearOperation b).removePerformed b).memory.parityFault (s.place b offset) length = true := hf
  simp only [State.endRecovery, h', hf', if_true]
  rfl

end

end Sys2Proof.Machine

namespace Sys2Proof.Proofs

open Sys2Proof.Machine

/-- Settles O24: by the outcome of the parity check and by whether the READ has been detached. -/
theorem readCompletes : Obligations.ReadCompletes := by
  refine ⟨?_, ?_, fun m x n => ⟨m.length_readBeats x n, fun _ _ k h => m.laneOf_readBeats x n k h⟩⟩
  · intro s b a ht hs hp ho hgood
    rw [exec_readComplete_of_due ht hs hp ho]
    constructor
    · intro hd
      rw [State.endRead_of_detached hd, State.clearOperation_eq]
    · intro e he
      rw [State.endRead_of_good he (Memory.parityFault_of_good hgood), State.finishEntry_eq_of_ref]
      rfl
  · intro s b a k ht hs hp ho hk hfaulty
    have hf : s.memory.parityFault (s.place b a.offset) a.length = true := Memory.parityFault_of_faulty ⟨k, hk, hfaulty⟩
    dsimp only
    rw [exec_readComplete_of_due ht hs hp ho]
    refine ⟨fun hd => by rw [State.endRead_of_detached hd, State.clearOperation_eq], fun e he => ?_⟩
    rw [State.endRead_of_faulty he hf]
    refine ⟨fun hm => ?_, fun hm hfull => ?_, fun hm hroom => ?_⟩
    · rw [State.faultedRead_of_unmirrored hm]
      rfl
    · have hr : ((s.clearOperation b).mirrors.get (partnerBank b)).hasRoom = false := (Backlog.hasRoom_eq_false_iff _).mpr hfull
      rw [State.faultedRead_of_full hm hr]
      rfl
    · have hr : ((s.clearOperation b).mirrors.get (partnerBank b)).hasRoom = true := (Backlog.hasRoom_iff _).mpr hroom
      rw [State.faultedRead_of_room hm hr, State.updateEntry_eq_of_ref]
      rfl

/-- Settles O25: the primary write of every beat, its copy, and the end of the access. -/
theorem writeCompletes : Obligations.WriteCompletes := by
  intro s b a beats ht hs hp ho
  have hfind : ((s.clearOperation b).primaryWrite b a beats).findEntry a.port a.ref = s.findEntry a.port a.ref := by
    rw [State.primaryWrite_eq]; rfl
  refine ⟨_, exec_writeComplete_of_due ht hs hp ho, ?_⟩
  rw [State.endWrite, State.finishAccess_eq, hfind, State.primaryWrite_eq]
  refine ⟨fun x hx => s.memory.writeBeats_outside _ beats x hx, fun j w k hw => ⟨?_, ?_⟩, fun hm => ?_, fun hm => ?_, rfl,
    fun e he => ?_, fun hd => if_pos hd, rfl⟩
  · exact s.memory.writeBeats_of_enabled _ k hw
  · exact s.memory.writeBeats_of_disabled _ k hw
  · simp only [hm, Bool.false_eq_true, if_false, State.clearOperation_eq]
  · simp only [hm, if_true, State.clearOperation_eq]
  · exact if_neg (by simp [he])

/-- Settles O26: by the parity of the beat read, and of a failed atomic by whether it has been detached. -/
theorem atomicReadCompletes : Obligations.AtomicReadCompletes := by
  intro s b a p ht hs hp h1 ho
  dsimp only
  rw [exec_atomicReadComplete_of_due ht hs hp h1 ho]
  refine ⟨s.memory.laneOf_readBeat _, fun hgood hk => ?_, fun hgood hk => ?_, fun hfaulty hd => ?_, fun e hfaulty he => ?_⟩
  · have h := State.atomicOutcome_of_good (p := p) (Memory.parityFault_of_good hgood)
    rw [State.endAtomicRead, h, hk, State.updateEntry_eq_of_ref]
    rfl
  · have h := State.atomicOutcome_of_good (p := p) (Memory.parityFault_of_good hgood)
    rw [State.endAtomicRead, h, hk, State.updateEntry_eq_of_ref]
    rfl
  · have h := State.atomicOutcome_of_faulty (p := p) (Memory.parityFault_of_faulty hfaulty)
    rw [State.endAtomicRead, h, State.reportFailedAtomic_of_detached (by exact hd), State.updateEntry_eq_of_ref]
    rfl
  · have h := State.atomicOutcome_of_faulty (p := p) (Memory.parityFault_of_faulty hfaulty)
    rw [State.endAtomicRead, h, State.reportFailedAtomic_of_found _ (e := e) (by exact he), State.updateEntry_eq_of_ref]
    rfl

/-- Settles O27: by the outcome that the first slot has kept. -/
theorem atomicPairEnds : Obligations.AtomicPairEnds := by
  intro s b p ht hs hp h2
  dsimp only
  rw [exec_atomicPairEnd_of_due ht hs hp h2]
  constructor
  · intro oldValue newValue hr
    refine ⟨s.memory.writeBeats (s.place b p.access.offset) [fullBeat newValue], ?_, fun k => ?_, fun y hy => ?_⟩
    · simp only [State.endPair, hr]
      rw [State.finishAccess_eq, State.primaryWrite_eq]
      rfl
    · exact s.memory.writeBeats_of_enabled (beats := [fullBeat newValue]) (j := 0) _ k rfl (enables_fullBeat newValue k)
    · exact s.memory.writeBeats_outside _ _ y hy
  · intro oldValue hr
    simp only [State.endPair, hr, State.failedPairEnd]
    cases hm : p.access.mirror
    · simp only [Bool.false_eq_true, if_false, State.finishAccess_eq]
      rfl
    · simp only [if_true, State.finishAccess_eq]
      rfl

/-- Settles O28: the write of the copy's beats, and the performed entry gone. -/
theorem secondaryWriteCompletes : Obligations.SecondaryWriteCompletes := by
  intro s b offset beats ht hs hp ho
  refine ⟨s.memory.writeBeats (s.place b offset) beats, ?_, fun x hx => s.memory.writeBeats_outside _ beats x hx,
    fun j w k hw => ⟨s.memory.writeBeats_of_enabled _ k hw, s.memory.writeBeats_of_disabled _ k hw⟩⟩
  rw [exec_secondaryWriteComplete_of_due ht hs hp ho]
  rfl

/-- Settles O29: by whether the request is still in its queue, and by the parity of the partner's bytes. -/
theorem recoveryReadCompletes : Obligations.RecoveryReadCompletes := by
  intro s b offset length n ref ht hs hp ho
  dsimp only
  rw [exec_recoveryReadComplete_of_due ht hs hp ho]
  refine ⟨s.memory.length_readBeats _ _, fun j d k h => s.memory.laneOf_readBeats _ _ k h, fun hd => ?_,
    fun e he => ⟨fun hgood => ?_, fun hfaulty => ?_⟩⟩
  · rw [State.endRecovery_of_removed hd]
    rfl
  · rw [State.endRecovery_of_good he (Memory.parityFault_of_good hgood)]
    rfl
  · obtain rfl := s.ref_of_findEntry he
    rw [State.endRecovery_of_faulty he (Memory.parityFault_of_faulty hfaulty)]
    rfl

end Sys2Proof.Proofs
end

section
/-! SUPPORT. The memory map as intervals: which bank holds an address, and where the partner address lies (01 R7, R9, R10). -/

namespace Sys2Proof.Machine

/-- The windows that memory is cut into: four under split mode, otherwise two (R7). -/
def windowCount (split : Bool) : Nat := if split then 4 else 2

/-- The index of a bank's window, under split mode or not (Table 1-1). -/
def windowIndex (split : Bool) (b : Bank) : Nat :=
  match b with
  | .lc0 => 0
  | .lc1 => 1
  | .uc0 => if split then 2 else 1
  | .uc1 => 3

theorem bankOfWindow_eq_some_iff (split : Bool) (i : Nat) (b : Bank) :
    bankOfWindow split i = some b ↔ rowUsed split b = true ∧ i = windowIndex split b := by
  match split, i with
  | false, 0 | false, 1 | true, 0 | true, 1 | true, 2 | true, 3 => cases b <;> simp [bankOfWindow, rowUsed, windowIndex]
  | false, i + 2 => cases b <;> simp [bankOfWindow, rowUsed, windowIndex]
  | true, i + 4 => cases b <;> simp [bankOfWindow, rowUsed, windowIndex]

theorem exists_bankOfWindow {split : Bool} {i : Nat} (h : i < windowCount split) : ∃ b, bankOfWindow split i = some b := by
  match split, i with
  | false, 0 | false, 1 | true, 0 | true, 1 | true, 2 | true, 3 => exact ⟨_, rfl⟩
  | false, i + 2 => simp [windowCount] at h
  | true, i + 4 => simp [windowCount] at h

section
variable (g : Geometry)

theorem windowCount_mul_windowBytes : windowCount g.split * windowBytes g = g.size.bytes := by
  cases hs : g.split <;> cases hm : g.size <;> simp [windowCount, windowBytes, hs, hm, MemorySize.bytes]

theorem windowBytes_pos : 0 < windowBytes g := by
  cases hs : g.split <;> cases hm : g.size <;> simp [windowBytes, hs, hm, MemorySize.bytes]

theorem size_bytes_lt : g.size.bytes < 2 ^ 32 := by
  cases g.size <;> decide

/-- Two channels of equal size (R5). -/
theorem size_bytes_eq_two_mul : g.size.bytes = 2 * (g.size.bytes / 2) := by
  cases g.size <;> rfl

variable {b : Bank}

/-- The windows of the used banks follow one another (Table 1-1). -/
theorem bankBase_eq_windowIndex_mul (h : rowUsed g.split b = true) :
    bankBase g b = windowIndex g.split b * windowBytes g := by
  cases hs : g.split <;> cases hm : g.size <;> cases b <;>
    simp [rowUsed, bankBase, windowIndex, windowBytes, MemorySize.bytes, hs, hm] at h ⊢

/-- The bank of an address is the used one whose window holds it (R7). -/
theorem bankOf_eq_some_iff (a : Address) (b : Bank) : bankOf g a = some b ↔
    rowUsed g.split b = true ∧ bankBase g b ≤ a.toNat ∧ a.toNat < bankBase g b + windowBytes g := by
  rw [bankOf, bankOfWindow_eq_some_iff]
  refine and_congr_right fun hu => ?_
  have := windowBytes_pos g
  rw [Nat.div_eq_iff this, bankBase_eq_windowIndex_mul g hu]
  omega

/-- A bank and its partner have the same place in their channels, size / 2 apart (R10). -/
theorem bankBase_partnerBank (h : rowUsed g.split b = true) :
    (bankBase g b + windowBytes g ≤ g.size.bytes / 2 ∧ bankBase g (partnerBank b) = bankBase g b + g.size.bytes / 2)
    ∨ (g.size.bytes / 2 ≤ bankBase g b ∧ bankBase g b + windowBytes g ≤ g.size.bytes
      ∧ bankBase g (partnerBank b) + g.size.bytes / 2 = bankBase g b) := by
  cases hs : g.split <;> cases hm : g.size <;> cases b <;>
    simp [rowUsed, bankBase, partnerBank, windowBytes, MemorySize.bytes, hs, hm] at h ⊢

theorem rowUsed_partnerBank (split : Bool) (b : Bank) : rowUsed split (partnerBank b) = rowUsed split b := by
  cases b <;> rfl

variable {a : Address}

theorem bankOf_of_out_of_range (h : g.size.bytes ≤ a.toNat) : bankOf g a = none := by
  rw [Option.eq_none_iff_forall_ne_some]
  intro b hb
  obtain ⟨hu, hlow, hhigh⟩ := (bankOf_eq_some_iff g a b).mp hb
  have := bankBase_partnerBank g hu
  omega

theorem exists_bankOf_of_in_range (h : a.toNat < g.size.bytes) : ∃ b, bankOf g a = some b := by
  apply exists_bankOfWindow
  rwa [Nat.div_lt_iff_lt_mul (windowBytes_pos g), windowCount_mul_windowBytes]

/-- The partner address lies at the same place of the other channel (R10). -/
theorem toNat_partnerAddress (a : Address) : (partnerAddress g a).toNat =
    if a.toNat < g.size.bytes / 2 then a.toNat + g.size.bytes / 2 else a.toNat - g.size.bytes / 2 := by
  have := size_bytes_lt g
  have := size_bytes_eq_two_mul g
  have hh : (BitVec.ofNat 32 (g.size.bytes / 2)).toNat = g.size.bytes / 2 := by
    rw [BitVec.toNat_ofNat, Nat.mod_eq_of_lt (by omega)]
  unfold partnerAddress
  split
  · rw [BitVec.toNat_add, hh, Nat.mod_eq_of_lt (by omega)]
  · rw [BitVec.toNat_sub_of_le (by rw [BitVec.le_def]; omega), hh]

theorem partnerAddress_partnerAddress (h : a.toNat < g.size.bytes) : partnerAddress g (partnerAddress g a) = a := by
  have hsize := size_bytes_eq_two_mul g
  apply BitVec.eq_of_toNat_eq
  rw [toNat_partnerAddress, toNat_partnerAddress]
  split <;> split <;> omega

end

end Sys2Proof.Machine

namespace Sys2Proof.Proofs

open Sys2Proof.Machine

/-- Settles O10: in range, the bank is the one whose window holds the address, and its partner's window is half the memory away. -/
theorem banksAndPartners : Obligations.BanksAndPartners := by
  refine fun g a => ⟨bankOf_of_out_of_range g, fun h => ?_⟩
  obtain ⟨b, hb⟩ := exists_bankOf_of_in_range g h
  obtain ⟨hu, hlow, hhigh⟩ := (bankOf_eq_some_iff g a b).mp hb
  have hbase := bankBase_partnerBank g hu
  have hpartner := toNat_partnerAddress g a
  refine ⟨b, hb, hlow, hhigh, hu, ?_, ?_, ?_, ?_, partnerAddress_partnerAddress g h⟩
  · rw [bankOffset]; omega
  · rw [bankOffset]; omega
  · rw [bankOf_eq_some_iff, rowUsed_partnerBank, hpartner]
    refine ⟨hu, ?_⟩
    split <;> omega
  · rw [bankOffset, bankOffset, hpartner]
    split <;> omega

end Sys2Proof.Proofs
end

section
/-! SUPPORT. What a bank does at a slot start, by the cases of R20 and the codes of R21 to R25, and what a grant and the service of the
backlog head leave. -/

namespace Sys2Proof.Machine

section
variable {s : State} {b : Bank}

/-! ### The decision of a bank (R19, R20) -/

theorem State.decideBank_of_unused (h : rowUsed s.commit.active.geometry.split b = false) : s.decideBank b = s := by
  simp only [State.decideBank, h, Bool.false_eq_true, if_false]

theorem State.decideBank_of_pair (h : rowUsed s.commit.active.geometry.split b = true) {p : AtomicPair}
    (hp : (s.banks.get b).pair = some p) : s.decideBank b = s.holdSecond b p := by
  simp only [State.decideBank, h, if_true, State.decideUsed, hp]

theorem State.decideBank_of_debt (h : rowUsed s.commit.active.geometry.split b = true) (hp : (s.banks.get b).pair = none)
    (hd : s.scheduler.position = 0 ∧ (s.banks.get b).debt = true) : s.decideBank b = s.catchUp b := by
  simp only [State.decideBank, h, State.decideUsed, hp, hd, and_self, if_true]

theorem State.decideBank_of_code (h : rowUsed s.commit.active.geometry.split b = true) (hp : (s.banks.get b).pair = none)
    (hd : ¬ (s.scheduler.position = 0 ∧ (s.banks.get b).debt = true)) : s.decideBank b = s.codeSlot b := by
  simp only [State.decideBank, h, State.decideUsed, hp, hd, if_true, if_false]

/-! ### The code of the row (R21 to R25) -/

theorem State.portSlot_eq (n : PortId) : s.portSlot b n = match s.candidate n b with
    | some e => if s.eligible b n e then s.grant b n e else s.serveBacklog b
    | none => s.serveBacklog b := by
  cases hc : s.candidate n b with
  | none => simp only [State.portSlot, State.eligibleCandidate, hc, Option.filter_none]
  | some e =>
    cases he : s.eligible b n e <;>
      simp [State.portSlot, State.eligibleCandidate, hc, Option.filter_some, he]

/-- The winner of an OPEN slot has an eligible candidate (R35). -/
theorem State.eligibleCandidate_of_openWinner {n : PortId} (h : s.openWinner b = some n) :
    ∃ e, s.candidate n b = some e ∧ s.eligibleCandidate b n = some e := by
  have hsome : (s.eligibleCandidate b n).isSome = true :=
    List.find?_some (p := fun m => (s.eligibleCandidate b m).isSome) h
  obtain ⟨e, he⟩ := Option.isSome_iff_exists.mp hsome
  exact ⟨e, (Option.filter_eq_some_iff.mp he).1, he⟩

theorem State.openSlot_eq : s.openSlot b = match s.openWinner b with
    | some n => match s.candidate n b with
      | some e => (s.grant b n e).movePointer b n
      | none => s.serveBacklog b
    | none => s.serveBacklog b := by
  cases hw : s.openWinner b with
  | none => simp only [State.openSlot, hw]
  | some n =>
    obtain ⟨e, hc, he⟩ := State.eligibleCandidate_of_openWinner hw
    simp only [State.openSlot, hw, hc, he]

theorem State.refreshSlot_eq : s.refreshSlot b = if s.commit.active.geometry.kind = .dynamic then
    { s with banks := s.banks.set b { s.banks.get b with operation := some .refresh } } else s := by
  cases hk : s.commit.active.geometry.kind <;> simp [State.refreshSlot, hk, State.giveOperation_eq]

/-! ### The backlog head (R33) -/

theorem Backlog.head_of_entries {l : Backlog} {front rest : List BacklogEntry} {e : BacklogEntry}
    (hl : l.entries = front ++ e :: rest) (hfront : ∀ x ∈ front, x.performing = true) (he : e.performing = false) :
    l.head = some e := by
  rw [Backlog.head, hl, List.find?_append, List.find?_eq_none.mpr (by simpa using hfront)]
  simp [he]

theorem Backlog.head_of_all_performing {l : Backlog} (h : ∀ x ∈ l.entries, x.performing = true) : l.head = none := by
  rw [Backlog.head, List.find?_eq_none]
  simpa using h

/-- The mark falls on the oldest entry that is not being performed (R33). -/
theorem markHead_append {front rest : List BacklogEntry} {e : BacklogEntry} (hfront : ∀ x ∈ front, x.performing = true)
    (he : e.performing = false) : markHead (front ++ e :: rest) = front ++ { e with performing := true } :: rest := by
  induction front with
  | nil => simp [markHead, he]
  | cons x front ih =>
    rw [List.cons_append, markHead, if_pos (hfront x List.mem_cons_self),
      ih fun y hy => hfront y (List.mem_cons_of_mem x hy), List.cons_append]

theorem State.serveBacklog_of_none (h : (s.mirrors.get b).head = none) : s.serveBacklog b = s := by
  simp only [State.serveBacklog, h]

theorem State.serveBacklog_of_head {e : BacklogEntry} (h : (s.mirrors.get b).head = some e) : s.serveBacklog b = { s with
    mirrors := s.mirrors.set b { s.mirrors.get b with entries := markHead (s.mirrors.get b).entries }
    banks := s.banks.set b
      { s.banks.get b with operation := some (e.operation (bankOffset s.commit.active.geometry b e.address)) } } := by
  simp only [State.serveBacklog, h]
  rfl

/-! ### A grant (R32, R44, R76) -/

/-- An atomic is LINKED by its grant, every other entry IN-SLOT (R32, R44). -/
theorem QueueEntry.granted_eq (e : QueueEntry) : e.granted = match e.work with
    | .atomic _ _ => { e with state := .linked, expiring := false }
    | .read | .write _ => { e with state := .inSlot, expiring := false } := by
  cases h : e.work <;> simp only [QueueEntry.granted, h]

theorem Work.writes_iff (w : Work) : w.writes = true ↔ w ≠ .read := by
  cases w <;> simp [Work.writes]

/-- A mirrored WRITE or atomic reserves its place at the partner bank with its grant (R76). -/
theorem State.grant_eq (s : State) (b : Bank) (n : PortId) (e : QueueEntry) : s.grant b n e = { s with
    queues := s.queues.set n ((s.queues.get n).map fun x => if x.ref = e.ref then x.granted else x)
    banks := s.banks.set b { s.banks.get b with
      operation := some (e.operation n (s.presentedOffset b e.address)), pair := e.pair n (s.presentedOffset b e.address) }
    mirrors := if e.mirror = true ∧ e.work ≠ .read then
        s.mirrors.set (partnerBank b) { s.mirrors.get (partnerBank b) with
          reservations := (s.mirrors.get (partnerBank b)).reservations + 1 }
      else s.mirrors } := by
  have hc : (e.work.writes && e.mirror) = true ↔ e.mirror = true ∧ e.work ≠ .read := by
    rw [Bool.and_eq_true, Work.writes_iff, and_comm]
  unfold State.grant
  rw [State.updateEntry_eq_of_ref]
  by_cases h : e.mirror = true ∧ e.work ≠ .read
  · simp only [hc.mpr h, if_pos h]
    rfl
  · simp only [if_neg h, if_neg (mt hc.mp h)]
    rfl

end

end Sys2Proof.Machine

namespace Sys2Proof.Proofs

open Sys2Proof.Machine

/-- Settles O19: the second slot of a pair first, then the catch-up refresh, then the code of the row (R20). -/
theorem bankDecision : Obligations.BankDecision := by
  refine fun s b => ⟨State.decideBank_of_unused, fun hu => ⟨fun p hp => ?_, fun hp => ⟨fun h0 hd => ?_, fun hd => ?_⟩⟩⟩
  · rw [State.decideBank_of_pair hu hp]
    dsimp only [State.holdSecond, AtomicPair.secondOperation, AtomicPair.atSecond]
    cases p.result with
    | none => rfl
    | some r => cases r <;> rfl
  · exact State.decideBank_of_debt hu hp ⟨h0, hd⟩
  · rw [State.decideBank_of_code hu hp hd, State.codeSlot, State.currentCode]
    cases (s.activeRow b).codeAt s.scheduler.position with
    | port n => exact State.portSlot_eq n
    | openSlot => exact State.openSlot_eq
    | mirror => rfl
    | refresh => exact State.refreshSlot_eq
    | idle => rfl

/-- Settles O21: the update of a grant by the kind of work, and the split of the backlog at its head. -/
theorem grantAndBacklogService : Obligations.GrantAndBacklogService := by
  refine ⟨fun s b n e => ?_, fun s b => ⟨fun front e rest hl hfront he => ?_, fun hall => ?_⟩⟩
  · dsimp only
    rw [State.grant_eq]
    cases hw : e.work <;> simp only [QueueEntry.operation, QueueEntry.pair, hw, QueueEntry.granted_eq] <;> rfl
  · dsimp only
    rw [State.serveBacklog_of_head (Backlog.head_of_entries hl hfront he), hl, markHead_append hfront he]
    cases hw : e.work <;> simp only [BacklogEntry.operation, hw]
  · exact State.serveBacklog_of_none (Backlog.head_of_all_performing hall)

end Sys2Proof.Proofs
end

section
/-! SUPPORT. That every command answers a next state with the queue of waiting commands as it was, but for a change of a byte that no memory
has: the effects of the management commands keep memory, references and that queue, and so do the other commands' updates. -/

namespace Sys2Proof.Machine

/-! ### Effects of the management commands -/

section
variable (s : State)

theorem State.clearReported_keep : KeepFrame s s.clearReported := ⟨rfl, rfl, rfl⟩

theorem State.popFault_keep : KeepFrame s s.popFault.state := by
  unfold State.popFault
  split <;> exact ⟨rfl, rfl, rfl⟩

theorem State.popCapture_keep : KeepFrame s s.popCapture.state := by
  unfold State.popCapture
  split <;> exact ⟨rfl, rfl, rfl⟩

theorem State.editStaged_keep (edited : Option Plan) : KeepFrame s (s.editStaged edited).state := by
  unfold State.editStaged
  split
  · exact ⟨rfl, rfl, rfl⟩
  · split <;> exact ⟨rfl, rfl, rfl⟩

theorem State.readPlan_keep (plan item : Byte) : KeepFrame s (s.readPlan plan item).state := by
  unfold State.readPlan
  split <;> exact ⟨rfl, rfl, rfl⟩

theorem State.tryCommit_keep : KeepFrame s s.tryCommit.state := by
  unfold State.tryCommit
  split
  · exact ⟨rfl, rfl, rfl⟩
  · split
    · exact ⟨rfl, rfl, rfl⟩
    · split <;> exact ⟨rfl, rfl, rfl⟩

theorem State.endCommit_keep (o : CommitOutcome) : KeepFrame s (s.endCommit o) := by
  unfold State.endCommit
  split <;> exact ⟨rfl, rfl, rfl⟩

theorem State.cancel_keep : KeepFrame s s.cancel.state := by
  unfold State.cancel
  split
  · exact ⟨rfl, rfl, rfl⟩
  · exact s.endCommit_keep .cancelled

theorem State.writeMask_keep (mask : Byte) : KeepFrame s (s.writeMask mask).state := by
  unfold State.writeMask
  split <;> exact ⟨rfl, rfl, rfl⟩

theorem State.writeStrobe_keep (setting : Byte) : KeepFrame s (s.writeStrobe setting).state := by
  unfold State.writeStrobe
  split <;> exact ⟨rfl, rfl, rfl⟩

theorem State.clearTraffic_keep : KeepFrame s s.clearTraffic := ⟨rfl, rfl, rfl⟩

theorem State.trafficReset_keep : KeepFrame s s.trafficReset := by
  have h := s.clearTraffic_keep.trans (s.clearTraffic.endCommit_keep .abortedByReset)
  exact ⟨h.memory, h.nextRef, h.pending⟩

/-! ### The queue of waiting commands -/

theorem State.takeRequest_pending (n : PortId) (m : RequestMessage) : (s.takeRequest n m).pending = s.pending := by
  unfold State.takeRequest
  split <;> rfl

theorem State.settle_endBank_pending (b : Bank) : (s.settle.endBank b).pending = s.pending :=
  (s.settle.endBank_frame b).pending.trans s.settle_frame.pending

end

/-- A next state, with the queue of waiting commands of `s`. -/
def Answers (s : State) (o : Host.Outcome State Fault Refusal) : Prop := ∃ t, o = .next t ∧ t.pending = s.pending

section
variable {s t : State}

theorem Answers.of_pending (h : t.pending = s.pending) : Answers s (.next t) := ⟨t, rfl, h⟩

theorem Answers.of_ite {c : Prop} [Decidable c] (h : t.pending = s.pending) : Answers s (.next (if c then t else s)) := by
  split
  · exact .of_pending h
  · exact .of_pending rfl

/-- A result is handed back where one is due, and otherwise nothing happens. -/
theorem Answers.of_result (b : Bank) (h : t = s.settle.endBank b ∨ t = s) : Answers s (.next t) := by
  rcases h with rfl | rfl
  · exact .of_pending (s.settle_endBank_pending b)
  · exact .of_pending rfl

theorem Answers.of_frame {frame : List Byte} {check : Byte} {effect : State → Effect} (h : KeepFrame s (effect s).state) :
    Answers s (.next (s.takeFrame frame check effect)) := .of_pending (State.takeFrame_keep frame check h).pending

end

section
variable (s : State)

theorem execResponseTransfer_answers (n : PortId) : Answers s (execResponseTransfer n s) := by
  unfold execResponseTransfer
  split <;> exact .of_pending rfl

theorem execReplySpent_answers : Answers s (execReplySpent s) := by
  unfold execReplySpent
  split <;> exact .of_pending rfl

theorem execFrameOpen_answers : Answers s (execFrameOpen s) := by
  unfold execFrameOpen
  split <;> exact .of_pending rfl

theorem execMemoryDeviceChange_of_absent {a : Address} (v : Byte) (h : Config.memoryBytes ≤ a.toNat) :
    execMemoryDeviceChange a v s = .fault (.memoryAbsent a) := if_neg (Nat.not_lt.mpr h)

/-- Every command answers, but for a change of a byte that no memory has (R3, R96). -/
theorem exec_answers (c : Instr) (h : ∀ a v, c = .memoryDeviceChange a v → a.toNat < Config.memoryBytes) :
    Answers s (exec c s) := by
  cases c with
  | powerOnReset => exact .of_pending rfl
  | resetNRelease => exact .of_ite rfl
  | portReset n => exact .of_pending rfl
  | portResetRelease n => exact .of_pending rfl
  | acceptance n m => exact .of_ite (s.takeRequest_pending n m)
  | responseTransfer n => exact execResponseTransfer_answers s n
  | slotStart => exact .of_ite s.startSlot_keep.pending
  | slotEnd check => exact .of_ite (s.endSlot_pending check)
  | readComplete b => exact .of_result b (by split <;> simp)
  | writeComplete b => exact .of_result b (by split <;> simp)
  | atomicReadComplete b => exact .of_result b (by split <;> simp)
  | atomicPairEnd b => exact .of_result b (by split <;> simp)
  | secondaryWriteComplete b => exact .of_result b (by split <;> simp)
  | recoveryReadComplete b => exact .of_result b (by split <;> simp)
  | timeout turns => exact .of_pending (s.expirePorts_frame turns).pending
  | swapped turns => exact .of_ite (s.swap_keep turns).pending
  | abandoned => exact .of_ite rfl
  | truncation check => exact .of_ite (s.endSlot_pending check)
  | forcedBoundary => exact .of_ite (s.endSlot_pending .checkAfterExpiry)
  | syncLost => exact .of_pending s.loseLock_frame.pending
  | syncPulse => exact .of_pending (s.beforePulse_keep.trans (State.judgePulse_keep _)).pending
  | strobeEdge => exact .of_ite rfl
  | selectRelease => exact .of_pending rfl
  | badCommand code => exact .of_ite rfl
  | readStatus check => exact .of_frame s.clearReported_keep
  | readFault check => exact .of_frame s.popFault_keep
  | readCapture check => exact .of_frame s.popCapture_keep
  | captureNow check => exact .of_frame ⟨rfl, rfl, rfl⟩
  | writeGrid row position code check => exact .of_frame (s.editStaged_keep _)
  | writeRegion index image check => exact .of_frame (s.editStaged_keep _)
  | writeGeometry image check => exact .of_frame (s.editStaged_keep _)
  | writePortLimit port limit check => exact .of_frame (s.editStaged_keep _)
  | restage check => exact .of_frame (s.editStaged_keep _)
  | readPlan plan item check => exact .of_frame (s.readPlan_keep plan item)
  | commit check => exact .of_frame s.tryCommit_keep
  | cancelCommit check => exact .of_frame s.cancel_keep
  | setAlertMask mask check => exact .of_frame (s.writeMask_keep mask)
  | setStrobe setting check => exact .of_frame (s.writeStrobe_keep setting)
  | trafficReset check => exact .of_frame (s.startIfDue_keep.trans (State.trafficReset_keep _))
  | frameOpen => exact execFrameOpen_answers s
  | replySpent => exact execReplySpent_answers s
  | memoryDeviceChange a v =>
    rw [show exec (.memoryDeviceChange a v) s = execMemoryDeviceChange a v s from rfl, execMemoryDeviceChange,
      if_pos (h a v rfl)]
    exact .of_pending rfl

end

end Sys2Proof.Machine

namespace Sys2Proof.Proofs

open Sys2Proof.Machine

/-- Settles O3: every command answers unless it changes a byte that no memory has, and such a change faults. -/
theorem wellFormedCommandsAnswerAState : Obligations.WellFormedCommandsAnswerAState := by
  refine ⟨fun c s hwf => exec_answers s c ?_, fun c s f hf => ?_⟩
  · rintro a v rfl
    exact of_decide_eq_true hwf
  · by_cases h : ∀ a v, c = .memoryDeviceChange a v → a.toNat < Config.memoryBytes
    · obtain ⟨t, ht, -⟩ := exec_answers s c h
      rw [ht] at hf
      cases hf
    · push Not at h
      obtain ⟨a, v, rfl, habsent⟩ := h
      have hfault : exec (.memoryDeviceChange a v) s = .fault (.memoryAbsent a) :=
        execMemoryDeviceChange_of_absent s v habsent
      rw [hfault] at hf
      cases hf
      exact ⟨a, v, rfl, habsent, rfl⟩

end Sys2Proof.Proofs
end

section
/-! SUPPORT. Power-on reset and its release; the candidate of a port, its eligibility, and the arbitration of an OPEN slot. -/

namespace Sys2Proof.Machine

section
variable {s : State}

/-! ### RESET_N (R12, R187) -/

theorem State.inReset_of_stopped (h : s.scheduler.timer = .stopped) : s.inReset = true := decide_eq_true h

theorem State.inReset_of_not_stopped (h : s.scheduler.timer ≠ .stopped) : s.inReset = false := decide_eq_false h

theorem State.alert_of_stopped (h : s.scheduler.timer = .stopped) : s.alert = false := by
  rw [State.alert, State.inReset_of_stopped h, Bool.not_true, Bool.false_and]

theorem State.dataOutput_of_stopped (h : s.scheduler.timer = .stopped) (k : Nat) : s.dataOutput k = none :=
  if_pos (State.inReset_of_stopped h)

theorem exec_resetNRelease_of_stopped (h : s.scheduler.timer = .stopped) :
    exec .resetNRelease s = .next { s with scheduler := { s.scheduler with timer := .starting } } := by
  rw [exec, execResetNRelease, if_pos (State.inReset_of_stopped h)]
  rfl

theorem exec_resetNRelease_of_not_stopped (h : s.scheduler.timer ≠ .stopped) : exec .resetNRelease s = .next s := by
  rw [exec, execResetNRelease, State.inReset_of_not_stopped h, if_neg Bool.false_ne_true]

/-! ### Candidates and eligibility (R28 to R30) -/

variable {n : PortId} {b : Bank} {e : QueueEntry}

theorem State.candidate_eq_some_iff : s.candidate n b = some e ↔ (e.state = .waiting ∧ e.bank = b)
    ∧ ∃ older younger, s.queues.get n = older ++ e :: younger ∧ ∀ x ∈ older, ¬ (x.state = .waiting ∧ x.bank = b) := by
  simp only [State.candidate, List.find?_eq_some_iff_append, Bool.and_eq_true, decide_eq_true_eq, Bool.not_eq_true',
    Bool.and_eq_false_imp, decide_eq_false_iff_not, not_and]

theorem State.candidate_eq_none_iff :
    s.candidate n b = none ↔ ∀ x ∈ s.queues.get n, ¬ (x.state = .waiting ∧ x.bank = b) := by
  simp only [State.candidate, List.find?_eq_none, Bool.and_eq_true, decide_eq_true_eq]

theorem State.candidate_mem (h : s.candidate n b = some e) : e ∈ s.queues.get n := List.mem_of_find?_eq_some h

theorem State.candidate_waiting (h : s.candidate n b = some e) : e.state = .waiting := (State.candidate_eq_some_iff.mp h).1.1

theorem State.candidate_bank (h : s.candidate n b = some e) : e.bank = b := (State.candidate_eq_some_iff.mp h).1.2

theorem isPairAt_iff (r : Row) (slots : Nat) (n : PortId) (p : Nat) : isPairAt r slots n p = true ↔
    p + 1 < slots ∧ r.codeAt p = .port n ∧ r.codeAt (p + 1) = .port n := by
  simp only [isPairAt, Bool.and_eq_true, decide_eq_true_eq, and_assoc]

/-- A mirrored WRITE or atomic needs room at the partner bank (R30). -/
theorem State.mirrorRoom_iff (s : State) (b : Bank) (e : QueueEntry) : s.mirrorRoom b e = true ↔
    (e.work ≠ .read → e.mirror = true → (s.mirrors.get (partnerBank b)).hasRoom = true) := by
  rw [State.mirrorRoom, Bool.or_eq_true, Bool.not_eq_true', ← Work.writes_iff]
  cases e.work.writes <;> cases e.mirror <;> simp

theorem State.atomicSlot_of_atomic (s : State) (b : Bank) (n : PortId) (kind : AtomicKind) (operand : Beat) :
    s.atomicSlot b n (.atomic kind operand) = isPairAt (s.activeRow b) s.slots n s.scheduler.position := rfl

/-! ### OPEN arbitration (R35) -/

/-- The ports are examined in the order of their distance from the pointer. -/
theorem portsFrom_eq (p : PortId) : portsFrom p = (List.finRange 4).map (p + ·) := by
  simp [portsFrom, List.finRange_succ, List.finRange_zero]

/-- The port found on the way around from `p` is the first on that way. -/
theorem find?_portsFrom_eq_some_iff (p n : PortId) (f : PortId → Bool) :
    (portsFrom p).find? f = some n ↔ f n = true ∧ ∀ k, k - p < n - p → f k = false := by
  rw [portsFrom_eq, List.find?_map, ← Fin.find?_eq_find?_finRange, Option.map_eq_some_iff]
  constructor
  · rintro ⟨i, hi, rfl⟩
    obtain ⟨hfound, hbefore⟩ := Fin.find?_eq_some_iff.mp hi
    refine ⟨hfound, fun k hk => ?_⟩
    rw [add_sub_cancel_left] at hk
    simpa using hbefore (k - p) hk
  · rintro ⟨hfound, hbefore⟩
    refine ⟨n - p, Fin.find?_eq_some_iff.mpr ⟨by simpa using hfound, fun j hj => ?_⟩, add_sub_cancel p n⟩
    exact hbefore (p + j) (by rwa [add_sub_cancel_left])

theorem find?_portsFrom_eq_none_iff (p : PortId) (f : PortId → Bool) :
    (portsFrom p).find? f = none ↔ ∀ n, f n = false := by
  rw [portsFrom_eq, List.find?_map, ← Fin.find?_eq_find?_finRange, Option.map_eq_none_iff, Fin.find?_eq_none_iff]
  exact ⟨fun h n => by simpa using h (n - p), fun h i => h (p + i)⟩

theorem State.eligibleCandidate_eq_some_iff :
    s.eligibleCandidate b n = some e ↔ s.candidate n b = some e ∧ s.eligible b n e = true := Option.filter_eq_some_iff

theorem State.eligibleCandidate_isSome_iff :
    (s.eligibleCandidate b n).isSome = true ↔ ∃ e, s.candidate n b = some e ∧ s.eligible b n e = true := by
  simp only [Option.isSome_iff_exists, State.eligibleCandidate_eq_some_iff]

end

end Sys2Proof.Machine

namespace Sys2Proof.Proofs

open Sys2Proof.Machine

/-- Settles O4: the power-on state, the two lines that RESET_N holds, and its release. -/
theorem powerOnResetAndItsRelease : Obligations.PowerOnResetAndItsRelease := by
  refine ⟨fun s => rfl, fun s t h => ?_, fun s => ⟨exec_resetNRelease_of_stopped, exec_resetNRelease_of_not_stopped⟩⟩
  cases h
  exact ⟨State.alert_of_stopped rfl, State.dataOutput_of_stopped rfl⟩

/-- Settles O18: the candidate as the first entry found, and eligibility by the kind of work. -/
theorem candidatesAndEligibility : Obligations.CandidatesAndEligibility := by
  refine ⟨fun s n b => ⟨fun e => State.candidate_eq_some_iff.trans and_assoc, State.candidate_eq_none_iff⟩, fun s b n e => ?_⟩
  dsimp only
  rw [State.eligible, Bool.and_eq_true, State.mirrorRoom_iff, Backlog.hasRoom_iff]
  cases hw : e.work with
  | read => simp [State.atomicSlot]
  | write beats => simp [State.atomicSlot]
  | atomic kind operand => simp [State.atomicSlot_of_atomic, isPairAt_iff]

/-- Settles O20: the first port on the way around from the pointer with an eligible candidate. -/
theorem openArbitration : Obligations.OpenArbitration := by
  refine fun s b => ⟨fun n => ?_, ?_, fun n => rfl⟩
  · rw [State.openWinner, find?_portsFrom_eq_some_iff]
    simp only [State.eligibleCandidate_isSome_iff, ← Bool.not_eq_true]
  · rw [State.openWinner, find?_portsFrom_eq_none_iff]
    simp only [State.eligibleCandidate_isSome_iff, ← Bool.not_eq_true]

end Sys2Proof.Proofs
end

section
/-! SUPPORT. What the decision of one bank can be, said once, with what it leaves to the other banks; what the commit controller's reaction to
a boundary leaves alone; and the statements about a whole slot start (O17, O23). -/

namespace Sys2Proof.Machine

/-! ### The decisions of a bank (R20 to R25) -/

/-- What a bank can do in the slot that starts, each with all that is known where it does it. -/
inductive State.Decides (s : State) (b : Bank) : State → Prop
  | nothing (h : rowUsed s.commit.active.geometry.split b = true → (s.banks.get b).pair = none) : s.Decides b s
  | hold {p : AtomicPair} (used : rowUsed s.commit.active.geometry.split b = true) (pair : (s.banks.get b).pair = some p) :
      s.Decides b (s.holdSecond b p)
  | catchUp (used : rowUsed s.commit.active.geometry.split b = true) (pair : (s.banks.get b).pair = none)
      (position : s.scheduler.position = 0) : s.Decides b (s.catchUp b)
  | grantPort {n : PortId} {e : QueueEntry} (used : rowUsed s.commit.active.geometry.split b = true)
      (pair : (s.banks.get b).pair = none) (code : s.currentCode b = .port n) (candidate : s.candidate n b = some e)
      (eligible : s.eligible b n e = true) : s.Decides b (s.grant b n e)
  | grantOpen {n : PortId} {e : QueueEntry} (used : rowUsed s.commit.active.geometry.split b = true)
      (pair : (s.banks.get b).pair = none) (code : s.currentCode b = .openSlot) (candidate : s.candidate n b = some e)
      (eligible : s.eligible b n e = true) : s.Decides b ((s.grant b n e).movePointer b n)
  | serve {x : BacklogEntry} (used : rowUsed s.commit.active.geometry.split b = true)
      (pair : (s.banks.get b).pair = none)
      (code : s.currentCode b = .openSlot ∨ s.currentCode b = .mirror ∨ ∃ n, s.currentCode b = .port n)
      (head : (s.mirrors.get b).head = some x) : s.Decides b (s.serveBacklog b)
  | refresh (used : rowUsed s.commit.active.geometry.split b = true) (pair : (s.banks.get b).pair = none)
      (code : s.currentCode b = .refresh) (kind : s.commit.active.geometry.kind = .dynamic) :
      s.Decides b (s.giveOperation b .refresh)

section
variable {s : State} {b : Bank}

theorem State.serveBacklog_decides (used : rowUsed s.commit.active.geometry.split b = true)
    (pair : (s.banks.get b).pair = none)
    (code : s.currentCode b = .openSlot ∨ s.currentCode b = .mirror ∨ ∃ n, s.currentCode b = .port n) :
    s.Decides b (s.serveBacklog b) := by
  cases hx : (s.mirrors.get b).head with
  | none =>
    rw [State.serveBacklog_of_none hx]
    exact .nothing fun _ => pair
  | some x => exact .serve used pair code hx

theorem State.codeSlot_decides (used : rowUsed s.commit.active.geometry.split b = true)
    (pair : (s.banks.get b).pair = none) : s.Decides b (s.codeSlot b) := by
  unfold State.codeSlot
  cases code : s.currentCode b with
  | port n =>
    cases hc : s.eligibleCandidate b n with
    | none =>
      simp only [State.portSlot, hc]
      exact State.serveBacklog_decides used pair (.inr (.inr ⟨n, code⟩))
    | some e =>
      simp only [State.portSlot, hc]
      obtain ⟨candidate, eligible⟩ := State.eligibleCandidate_eq_some_iff.mp hc
      exact .grantPort used pair code candidate eligible
  | openSlot =>
    cases hw : s.openWinner b with
    | none =>
      simp only [State.openSlot, hw]
      exact State.serveBacklog_decides used pair (.inl code)
    | some n =>
      obtain ⟨e, candidate, hc⟩ := State.eligibleCandidate_of_openWinner hw
      simp only [State.openSlot, hw, hc]
      exact .grantOpen used pair code candidate (State.eligibleCandidate_eq_some_iff.mp hc).2
  | mirror => exact State.serveBacklog_decides used pair (.inr (.inl code))
  | refresh =>
    dsimp only
    rw [State.refreshSlot]
    split
    · exact .refresh used pair code ‹_›
    · exact .nothing fun _ => pair
  | idle => exact .nothing fun _ => pair

/-- Every decision of a bank is one of these. -/
theorem State.decideBank_decides (s : State) (b : Bank) : s.Decides b (s.decideBank b) := by
  cases used : rowUsed s.commit.active.geometry.split b with
  | false =>
    rw [State.decideBank_of_unused used]
    exact .nothing fun h => absurd h (by simp [used])
  | true =>
    cases pair : (s.banks.get b).pair with
    | some p =>
      rw [State.decideBank_of_pair used pair]
      exact .hold used pair
    | none =>
      by_cases hd : s.scheduler.position = 0 ∧ (s.banks.get b).debt = true
      · rw [State.decideBank_of_debt used pair hd]
        exact .catchUp used pair hd.1
      · rw [State.decideBank_of_code used pair hd]
        exact State.codeSlot_decides used pair

/-! ### What a decision changes -/

theorem State.grant_banks (s : State) (b : Bank) (n : PortId) (e : QueueEntry) : (s.grant b n e).banks =
    s.banks.set b { s.banks.get b with
      operation := some (e.operation n (s.presentedOffset b e.address)), pair := e.pair n (s.presentedOffset b e.address) } := by
  rw [State.grant_eq]

theorem State.serveBacklog_banks {x : BacklogEntry} (h : (s.mirrors.get b).head = some x) : (s.serveBacklog b).banks =
    s.banks.set b { s.banks.get b with operation := some (x.operation (s.presentedOffset b x.address)) } := by
  rw [State.serveBacklog_of_head h]
  rfl

/-- A decision changes no sequencer but its bank's (R38). -/
theorem State.Decides.banks_of_ne {t : State} (d : s.Decides b t) {c : Bank} (h : c ≠ b) :
    t.banks.get c = s.banks.get c := by
  cases d with
  | nothing => rfl
  | hold | catchUp | refresh => exact PerBank.get_set_of_ne _ h _
  | grantPort | grantOpen =>
    simp only [State.movePointer, State.setScheduler_banks, State.grant_banks, PerBank.get_set_of_ne _ h]
  | serve used pair code head => rw [State.serveBacklog_banks head, PerBank.get_set_of_ne _ h]

theorem State.decideBank_banks_of_ne {c : Bank} (h : c ≠ b) : (s.decideBank b).banks.get c = s.banks.get c :=
  (s.decideBank_decides b).banks_of_ne h

theorem State.decideBanks_banks_of_not_mem {l : List Bank} (h : b ∉ l) (s : State) :
    (l.foldl State.decideBank s).banks.get b = s.banks.get b := by
  induction l generalizing s with
  | nil => rfl
  | cons c rest ih =>
    rw [List.mem_cons, not_or] at h
    rw [List.foldl_cons, ih h.2, State.decideBank_banks_of_ne h.1]

/-- What a sequencer holds after all the decisions comes from its own bank's decision, in a state that agrees with the first one but for what
the decisions before it have changed. -/
theorem State.decideBanks_banks {l : List Bank} (hl : l.Nodup) (hb : b ∈ l) (s : State) :
    ∃ u, DecisionFrame s u ∧ u.banks.get b = s.banks.get b
      ∧ (l.foldl State.decideBank s).banks.get b = (u.decideBank b).banks.get b := by
  induction l generalizing s with
  | nil => cases hb
  | cons c rest ih =>
    rw [List.nodup_cons] at hl
    by_cases hc : b = c
    · subst hc
      exact ⟨s, .refl s, rfl, State.decideBanks_banks_of_not_mem hl.1 _⟩
    · obtain ⟨u, hframe, hbank, hlast⟩ := ih hl.2 (List.mem_of_ne_of_mem hc hb) (s.decideBank c)
      exact ⟨u, (s.decideBank_frame c).trans hframe, hbank.trans (State.decideBank_banks_of_ne hc), hlast⟩

theorem nodup_allBanks : allBanks.Nodup := by decide

/-- A queue entry without what a grant changes. -/
def QueueEntry.request (e : QueueEntry) : QueueEntry := { e with state := .waiting, expiring := false }

theorem QueueEntry.request_granted (e : QueueEntry) : e.granted.request = e.request := by
  rw [QueueEntry.granted_eq]
  split <;> rfl

/-- The freed places of every backlog and the requests of every queue, in their order, are as they were. -/
structure DecisionKeeps (s t : State) : Prop where
  freed    : ∀ c : Bank, (t.mirrors.get c).freed = (s.mirrors.get c).freed
  requests : ∀ n : PortId, (t.queues.get n).map QueueEntry.request = (s.queues.get n).map QueueEntry.request

theorem DecisionKeeps.refl (s : State) : DecisionKeeps s s := ⟨fun _ => rfl, fun _ => rfl⟩

theorem DecisionKeeps.trans {s t u : State} (h : DecisionKeeps s t) (k : DecisionKeeps t u) : DecisionKeeps s u :=
  ⟨fun c => (k.freed c).trans (h.freed c), fun n => (k.requests n).trans (h.requests n)⟩

theorem State.grant_keeps (s : State) (b : Bank) (n : PortId) (e : QueueEntry) : DecisionKeeps s (s.grant b n e) := by
  rw [State.grant_eq]
  constructor
  · intro c
    dsimp only
    split
    · rw [PerBank.get_set]
      split <;> simp_all
    · rfl
  · intro m
    dsimp only
    rw [PerPort.get_set]
    split
    · rename_i hm
      rw [hm, List.map_map]
      refine List.map_congr_left fun x _ => ?_
      rw [Function.comp_apply]
      split
      · exact x.request_granted
      · rfl
    · rfl

theorem State.serveBacklog_keeps {x : BacklogEntry} (h : (s.mirrors.get b).head = some x) :
    DecisionKeeps s (s.serveBacklog b) := by
  rw [State.serveBacklog_of_head h]
  refine ⟨fun c => ?_, fun _ => rfl⟩
  dsimp only
  rw [PerBank.get_set]
  split <;> simp_all

theorem State.Decides.keeps {t : State} (d : s.Decides b t) : DecisionKeeps s t := by
  cases d with
  | nothing => exact .refl s
  | hold | catchUp | refresh => exact ⟨fun _ => rfl, fun _ => rfl⟩
  | grantPort => exact s.grant_keeps _ _ _
  | grantOpen => exact (s.grant_keeps _ _ _).trans ⟨fun _ => rfl, fun _ => rfl⟩
  | serve used pair code head => exact State.serveBacklog_keeps head

theorem State.decideBanks_keeps (s : State) (l : List Bank) : DecisionKeeps s (l.foldl State.decideBank s) :=
  foldl_of_step .refl .trans (fun t c => (t.decideBank_decides c).keeps) l s

end

end Sys2Proof.Machine
end

section
/-! SUPPORT. What the boundary still owes when a slot starts: the loss of lock and the commit controller's reaction, each taken once; and the
statements about a whole slot start (O17, O23). -/

namespace Sys2Proof.Machine

section
variable (s : State)

/-! ### The reaction of the commit controller (R129 to R132) -/

/-- The slot timer, the position, the backlogs and what every bank performs are as they were. -/
structure ReactionFrame (s t : State) : Prop where
  timer     : t.scheduler.timer = s.scheduler.timer
  position  : t.scheduler.position = s.scheduler.position
  mirrors   : t.mirrors = s.mirrors
  operation : ∀ b : Bank, (t.banks.get b).operation = (s.banks.get b).operation
  pair      : ∀ b : Bank, (t.banks.get b).pair = (s.banks.get b).pair

theorem ReactionFrame.refl : ReactionFrame s s := ⟨rfl, rfl, rfl, fun _ => rfl, fun _ => rfl⟩

variable {s} in
theorem ReactionFrame.trans {t u : State} (h : ReactionFrame s t) (k : ReactionFrame t u) : ReactionFrame s u :=
  ⟨k.timer.trans h.timer, k.position.trans h.position, k.mirrors.trans h.mirrors,
    fun b => (k.operation b).trans (h.operation b), fun b => (k.pair b).trans (h.pair b)⟩

theorem TrafficFrame.reaction {s t : State} (h : TrafficFrame s t) : ReactionFrame s t :=
  ⟨by rw [h.scheduler], by rw [h.scheduler], h.mirrors, fun b => by rw [h.banks], fun b => by rw [h.banks]⟩

theorem State.loseLock_reaction : ReactionFrame s s.loseLock := by
  unfold State.loseLock
  split
  · exact ⟨rfl, rfl, rfl, fun _ => rfl, fun _ => rfl⟩
  · exact .refl s

theorem State.geometryReactions_reaction : ReactionFrame s s.geometryReactions :=
  ⟨rfl, rfl, rfl, fun b => by simp [State.geometryReactions], fun b => by simp [State.geometryReactions]⟩

theorem State.swap_reaction (turns : List PortId) : ReactionFrame s (s.swap turns) := by
  have installed (u : SyncUnit) : ReactionFrame s (s.loseLock.installPlan.setSync u) :=
    s.loseLock_reaction.trans ⟨rfl, rfl, rfl, fun _ => rfl, fun _ => rfl⟩
  unfold State.swap
  dsimp only
  split
  · exact (installed _).trans (State.geometryReactions_reaction _)
  · exact (installed _).trans (State.noLinkCompletions_frame _ turns).reaction

theorem State.commitReaction_reaction (turns : List PortId) : ReactionFrame s (s.commitReaction turns) := by
  unfold State.commitReaction
  split
  · exact s.swap_reaction turns
  · split
    · exact ⟨rfl, rfl, rfl, fun _ => rfl, fun _ => rfl⟩
    · split
      · exact ⟨rfl, rfl, rfl, fun _ => rfl, fun _ => rfl⟩
      · exact .refl s

/-- The plans, the commit state and the record after a swap (R129). -/
theorem State.swap_commit (turns : List PortId) : (s.swap turns).commit = { s.commit with
    active := s.commit.staged, state := .none, reactionDue := false
    record := ⟨some (.swapped, s.scheduler.cycleCount), true⟩ } := by
  have h : s.loseLock.installPlan.commit = { s.commit with
      active := s.commit.staged, state := .none, reactionDue := false
      record := ⟨some (.swapped, s.scheduler.cycleCount), true⟩ } := by
    unfold State.loseLock
    split <;> rfl
  unfold State.swap
  dsimp only
  split
  · exact h
  · exact (State.noLinkCompletions_frame _ turns).commit.trans h

/-- The sync unit after a swap: the loss of lock first, then the new sync enable (R143). -/
theorem State.swap_sync (turns : List PortId) : (s.swap turns).sync =
    s.loseLock.sync.takeEnable s.commit.active.syncEnable s.commit.staged.syncEnable := by
  have h : s.loseLock.commit = s.commit := s.loseLock_frame.commit
  unfold State.swap
  dsimp only
  split
  · rw [h]
    rfl
  · rw [(State.noLinkCompletions_frame _ turns).sync, h]
    rfl

theorem SyncUnit.takeEnable_lostDue (u : SyncUnit) (old new : Bool) : (u.takeEnable old new).lostDue = u.lostDue := by
  cases old <;> cases new <;> rfl

/-- Whatever the reaction, none is due after it. -/
theorem State.commitReaction_reactionDue (turns : List PortId) : (s.commitReaction turns).commit.reactionDue = false := by
  unfold State.commitReaction
  split
  · rw [State.swap_commit]
  · split
    · rfl
    · split
      · rfl
      · simp_all

/-! ### What is owed is taken once (log entry 4) -/

theorem State.swapDue_loseLock : s.loseLock.swapDue = s.swapDue := by
  unfold State.loseLock
  split <;> rfl

theorem State.abandonDue_loseLock : s.loseLock.abandonDue = s.abandonDue := by
  unfold State.loseLock
  split <;> rfl

theorem State.swap_loseLock (turns : List PortId) : s.loseLock.swap turns = s.swap turns := by
  simp only [State.swap, State.loseLock_loseLock]

theorem State.loseLock_swap (turns : List PortId) : (s.swap turns).loseLock = s.swap turns := by
  apply State.loseLock_of_not_due
  rw [State.swap_sync, SyncUnit.takeEnable_lostDue, State.lostDue_loseLock]

theorem State.abandon_loseLock : s.loseLock.abandon = s.abandon.loseLock := by
  have h : s.abandon.sync = s.sync := rfl
  unfold State.loseLock
  rw [h]
  split <;> rfl

theorem State.abandonDue_reactionDue (h : s.abandonDue = true) : s.swapDue = false := by
  simp only [State.abandonDue, Bool.and_eq_true, decide_eq_true_eq, Bool.not_eq_true'] at h
  obtain ⟨⟨⟨-, hstate⟩, hdrained⟩, -⟩ := h
  simp [State.swapDue, hstate, hdrained]

theorem State.commitReaction_of_swapDue (turns : List PortId) (h : s.swapDue = true) :
    s.commitReaction turns = s.swap turns := if_pos h

theorem State.commitReaction_of_abandonDue (turns : List PortId) (h : s.abandonDue = true) :
    s.commitReaction turns = s.abandon := by
  rw [State.commitReaction, s.abandonDue_reactionDue h, if_neg Bool.false_ne_true, if_pos h]

/-- In commit state NONE the boundary's reaction is nothing. -/
theorem State.commitReaction_of_none (turns : List PortId) (h : s.commit.state = .none) :
    s.commitReaction turns = s.setCommit { s.commit with reactionDue := false } := by
  cases hd : s.commit.reactionDue with
  | false =>
    rw [State.commitReaction_of_not_due s turns hd, ← hd]
    rfl
  | true => simp [State.commitReaction, State.swapDue, State.abandonDue, State.countDrain, h, hd]

/-! ### A slot start (R12, R20) -/

variable {s}

theorem DecisionFrame.eq_update {t : State} (h : DecisionFrame s t) : t = { s with
    scheduler := { s.scheduler with pointers := t.scheduler.pointers }
    queues := t.queues, mirrors := t.mirrors, banks := t.banks } := by
  obtain ⟨hscheduler, hports, hcommit, hsync, hlink, hmemory, hnext, hpending⟩ := h
  rw [← hscheduler, ← hports, ← hcommit, ← hsync, ← hlink, ← hmemory, ← hnext, ← hpending]

theorem exec_slotStart_of_starting (h : s.scheduler.timer = .starting) : exec .slotStart s = .next s.startSlot := by
  rw [exec, execSlotStart, if_pos h]

theorem exec_slotStart_of_not_starting (h : s.scheduler.timer ≠ .starting) : exec .slotStart s = .next s := by
  rw [exec, execSlotStart, if_neg h]

/-- A slot start is the same before and after what it would take first. -/
theorem exec_slotStart_congr {u : State} (hs : s.scheduler.timer = .starting) (hu : u.scheduler.timer = .starting)
    (h : s.loseLock.commitReaction [] = u.loseLock.commitReaction []) : exec .slotStart s = exec .slotStart u := by
  rw [exec_slotStart_of_starting hs, exec_slotStart_of_starting hu, State.startSlot, State.startSlot, h]

theorem exec_slotStart_loseLock (hs : s.scheduler.timer = .starting) : exec .slotStart s = exec .slotStart s.loseLock :=
  exec_slotStart_congr hs (by rw [s.loseLock_frame.scheduler, hs]) (by rw [State.loseLock_loseLock])

theorem exec_slotStart_swap (hs : s.scheduler.timer = .starting) (h : s.swapDue = true) :
    exec .slotStart s = exec .slotStart (s.swap []) := by
  refine exec_slotStart_congr hs (by rw [(s.swap_reaction []).timer, hs]) ?_
  rw [State.commitReaction_of_swapDue _ _ (s.swapDue_loseLock.trans h), State.swap_loseLock, State.loseLock_swap,
    State.commitReaction_of_not_due]
  rw [State.swap_commit]

theorem exec_slotStart_abandon (hs : s.scheduler.timer = .starting) (h : s.abandonDue = true) :
    exec .slotStart s = exec .slotStart s.abandon := by
  refine exec_slotStart_congr hs hs ?_
  rw [State.commitReaction_of_abandonDue _ _ (s.abandonDue_loseLock.trans h), State.abandon_loseLock,
    State.commitReaction_of_not_due]
  rw [(State.loseLock_frame _).commit]
  rfl

theorem exec_slotStart_of_none (hs : s.scheduler.timer = .starting) (h : s.commit.state = .none) :
    exec .slotStart s = exec .slotStart { s with commit := { s.commit with reactionDue := false } } := by
  refine exec_slotStart_congr hs hs ?_
  rw [State.commitReaction_of_none _ _ (by rw [s.loseLock_frame.commit, h]),
    State.commitReaction_of_not_due _ _ (by rw [(State.loseLock_frame _).commit])]
  unfold State.loseLock
  dsimp only
  split <;> rfl

theorem State.openFreedPlaces_freed (b : Bank) : (s.openFreedPlaces.mirrors.get b).freed = 0 := by
  rw [State.openFreedPlaces_eq, PerBank.get_map]

/-! ### Pairs between two slots (R26, R42) -/

variable {b : Bank}

/-- A pair that waits for its second slot stands on the grid past position 0. -/
theorem State.pairOnGrid_starting {p : AtomicPair} (h : s.pairOnGrid b = true) (ht : s.scheduler.timer = .starting)
    (hp : (s.banks.get b).pair = some p) : rowUsed s.commit.active.geometry.split b = true ∧ p.slot = .first
      ∧ 0 < s.scheduler.position ∧ s.currentCode b = .port p.access.port := by
  simp only [State.pairOnGrid, hp, ht, Bool.and_eq_true] at h
  cases hslot : p.slot <;> simp_all

theorem State.pairOnGrid_of_no_pair (hp : (s.banks.get b).pair = none) : s.pairOnGrid b = true := by
  simp only [State.pairOnGrid, hp]

/-- No atomic holds a bank where a boundary's reaction is due (R16, R42, R147). -/
theorem State.pair_eq_none_of_reactionDue (hg : s.PairsOnGrid) (hc : s.PositionInCycle) (h : s.commit.reactionDue = true) :
    (s.banks.get b).pair = none := by
  obtain ⟨ht, h0⟩ := hc.2 h
  cases hp : (s.banks.get b).pair with
  | none => rfl
  | some p =>
    obtain ⟨-, -, hpos, -⟩ := State.pairOnGrid_starting (hg b (mem_allBanks b)) ht hp
    omega

/-- Every pair still stands on the grid in force after the commit controller's reaction. -/
theorem State.commitReaction_pairsOnGrid (hg : s.PairsOnGrid) (hc : s.PositionInCycle) (turns : List PortId) :
    (s.commitReaction turns).PairsOnGrid := by
  intro b hb
  cases hd : s.commit.reactionDue with
  | false => rw [State.commitReaction_of_not_due s turns hd]; exact hg b hb
  | true =>
    apply State.pairOnGrid_of_no_pair
    rw [(s.commitReaction_reaction turns).pair, State.pair_eq_none_of_reactionDue hg hc hd]

theorem State.loseLock_pairsOnGrid (hg : s.PairsOnGrid) : s.loseLock.PairsOnGrid := by
  unfold State.loseLock
  split <;> exact hg

theorem State.loseLock_positionInCycle (hc : s.PositionInCycle) : s.loseLock.PositionInCycle := by
  unfold State.loseLock
  split <;> exact hc

/-- In state `u` of the slot start of `s` bank `b` decides, and what it decides stands. -/
structure State.DecidesIn (s : State) (b : Bank) (u : State) : Prop where
  timer     : u.scheduler.timer = .starting
  grid      : u.pairOnGrid b = true
  operation : (u.banks.get b).operation = (s.banks.get b).operation
  pair      : (u.banks.get b).pair = (s.banks.get b).pair
  commit    : s.startSlot.commit = u.commit
  position  : s.startSlot.scheduler.position = u.scheduler.position
  result    : s.startSlot.banks.get b = (u.decideBank b).banks.get b

theorem State.pairOnGrid_congr {t : State} (hq : (t.banks.get b).pair = (s.banks.get b).pair) (hc : t.commit = s.commit)
    (ht : t.scheduler.timer = s.scheduler.timer) (hp : t.scheduler.position = s.scheduler.position) :
    t.pairOnGrid b = s.pairOnGrid b := by
  have hcode : t.currentCode b = s.currentCode b := by rw [State.currentCode, State.activeRow, hc, hp]; rfl
  cases hpair : (s.banks.get b).pair with
  | none => rw [State.pairOnGrid_of_no_pair hpair, State.pairOnGrid_of_no_pair (hq.trans hpair)]
  | some p =>
    simp only [State.pairOnGrid, hq.trans hpair, hpair, hcode, State.activeRow, State.slots, hc, ht, hp]

/-- An eligible atomic stands at the first slot of a linked pair of its port (R29). -/
theorem State.isPairAt_of_eligible_atomic {n : PortId} {e : QueueEntry} {kind : AtomicKind} {operand : Beat}
    (h : s.eligible b n e = true) (hw : e.work = .atomic kind operand) : s.scheduler.position + 1 < s.slots
      ∧ s.currentCode b = .port n ∧ (s.activeRow b).codeAt (s.scheduler.position + 1) = .port n := by
  rw [State.eligible, Bool.and_eq_true, hw, State.atomicSlot_of_atomic, isPairAt_iff] at h
  exact h.1

theorem State.exists_decidesIn (ht : s.scheduler.timer = .starting) (hg : s.PairsOnGrid) (hc : s.PositionInCycle)
    (b : Bank) : ∃ u, s.DecidesIn b u := by
  have hgrid := State.commitReaction_pairsOnGrid (State.loseLock_pairsOnGrid hg) (State.loseLock_positionInCycle hc) []
  have hreaction := s.loseLock_reaction.trans (s.loseLock.commitReaction_reaction [])
  obtain ⟨u, hu, hbank, hlast⟩ :=
    State.decideBanks_banks nodup_allBanks (mem_allBanks b) (s.loseLock.commitReaction []).openFreedPlaces
  have hall := State.decideBanks_frame (s.loseLock.commitReaction []).openFreedPlaces allBanks
  have hposition : u.scheduler.position = (s.loseLock.commitReaction []).scheduler.position := by rw [hu.scheduler]; rfl
  have htimer : u.scheduler.timer = (s.loseLock.commitReaction []).scheduler.timer := by rw [hu.scheduler]; rfl
  have hlater : u.banks.get b = (s.loseLock.commitReaction []).banks.get b := hbank
  refine ⟨u, ?_, ?_, ?_, ?_, hall.commit.trans hu.commit.symm, ?_, hlast⟩
  · rw [htimer, hreaction.timer, ht]
  · rw [State.pairOnGrid_congr (by rw [hlater]; rfl) hu.commit htimer hposition]
    exact hgrid b (mem_allBanks b)
  · rw [hlater, hreaction.operation]
  · rw [hlater, hreaction.pair]
  · rw [hposition, State.startSlot, State.beginSlot, State.setScheduler_scheduler, hall.scheduler]
    rfl

end

end Sys2Proof.Machine

namespace Sys2Proof.Proofs

open Sys2Proof.Machine

/-- Settles O17: with nothing owed the decisions of the four banks, by the frame of a decision; what is owed is taken once. -/
theorem slotStartRunsTheSlot : Obligations.SlotStartRunsTheSlot := by
  refine ⟨fun s ht hl hr => ?_, fun s => exec_slotStart_of_not_starting, fun s u ht hu => ?_, fun s u ht hd hu => ?_,
    fun s u ht hd hu => ?_, fun s hn => ?_⟩
  · have hframe := State.decideBanks_frame s.openFreedPlaces allBanks
    have hkeeps := State.decideBanks_keeps s.openFreedPlaces allBanks
    refine ⟨s.startSlot, exec_slotStart_of_starting ht, ?_, ?_, ?_, ?_⟩ <;> rw [State.startSlot_of_nothing_due s hl hr]
    · rfl
    · exact congrArg State.beginSlot hframe.eq_update
    · intro b
      exact (hkeeps.freed b).trans (State.openFreedPlaces_freed b)
    · exact hkeeps.requests
  · cases hu
    exact exec_slotStart_loseLock ht
  · rw [exec, execSwapped, if_pos hd] at hu
    cases hu
    exact exec_slotStart_swap ht hd
  · rw [exec, execAbandoned, if_pos hd] at hu
    cases hu
    exact exec_slotStart_abandon ht hd
  · by_cases ht : s.scheduler.timer = .starting
    · exact .inl (exec_slotStart_of_none ht hn)
    · exact .inr ht

/-- Settles O23: by the state in which the bank decides, and by what it decides there. -/
theorem banksObeyTheGrid : Obligations.BanksObeyTheGrid := by
  intro s t _ hidle hcycle hgrid ht hexec b
  rw [exec_slotStart_of_starting ht] at hexec
  cases hexec
  obtain ⟨u, hu⟩ := State.exists_decidesIn ht hgrid hcycle b
  have hnone : (u.banks.get b).operation = none := by
    rw [hu.operation]
    exact (hidle (by simp [ht]) b (mem_allBanks b)).1
  dsimp only [State.activeRow, State.slots]
  rw [hu.commit, hu.position, hu.result]
  have hdecides := u.decideBank_decides b
  generalize u.decideBank b = v at hdecides ⊢
  cases hdecides with
  | nothing => rw [hnone]; trivial
  | @hold p used pair =>
    obtain ⟨-, -, -, hcode⟩ := State.pairOnGrid_starting hu.grid hu.timer pair
    rw [State.holdSecond, State.setSequencer_banks, PerBank.get_set_self]
    rcases hr : p.result with _ | ⟨_ | _⟩
    · simp [AtomicPair.secondOperation, AtomicPair.atSecond, hr]
    · simpa [AtomicPair.secondOperation, AtomicPair.atSecond, hr] using ⟨used, hcode⟩
    · simp [AtomicPair.secondOperation, AtomicPair.atSecond, hr]
  | catchUp used pair position => simpa [State.catchUp] using ⟨used, position⟩
  | @grantPort n e used pair code candidate eligible =>
    rw [State.grant_banks, PerBank.get_set_self]
    cases hw : e.work <;> simp only [QueueEntry.operation, hw]
    · exact ⟨used, .inl code⟩
    · exact ⟨used, .inl code⟩
    · obtain ⟨hnext, -, hcode⟩ := State.isPairAt_of_eligible_atomic eligible hw
      exact ⟨used, code, hcode, hnext⟩
  | @grantOpen n e used pair code candidate eligible =>
    rw [State.movePointer, State.setScheduler_banks, State.grant_banks, PerBank.get_set_self]
    cases hw : e.work <;> simp only [QueueEntry.operation, hw]
    · exact ⟨used, .inr code⟩
    · exact ⟨used, .inr code⟩
    · obtain ⟨-, hcode, -⟩ := State.isPairAt_of_eligible_atomic eligible hw
      exact absurd (code.symm.trans hcode) (by simp)
  | @serve x used pair code head =>
    rw [State.serveBacklog_banks head, PerBank.get_set_self]
    cases hw : x.work <;> simp only [BacklogEntry.operation, hw] <;> exact ⟨used, code⟩
  | refresh used pair code kind => simpa [State.giveOperation] using ⟨used, code, kind⟩

end Sys2Proof.Proofs
end

section
/-! SUPPORT. What a slot end hands back on one bank, said once; that the expiries leave none due; the slot end with nothing to hand back; and
the statements about slot ends (O31, O32, O34). -/

namespace Sys2Proof.Machine

/-! ### What one bank hands back (Table 6-1) -/

/-- What a bank can hand back at a slot end, each with what its sequencer holds there. -/
inductive State.HandsBack (s : State) (b : Bank) : State → Prop
  | nothing (operation : (s.banks.get b).operation = none) (first : (s.banks.get b).pairIn .second = none) : s.HandsBack b s
  | pairEnd {p : AtomicPair} (pair : (s.banks.get b).pair = some p) (second : p.slot = .second) :
      s.HandsBack b (s.endPair b p)
  | read {a : PortAccess} (operation : (s.banks.get b).operation = some (.portRead a))
      (first : (s.banks.get b).pairIn .second = none) : s.HandsBack b (s.endRead b a)
  | write {a : PortAccess} {beats : List WriteBeat} (operation : (s.banks.get b).operation = some (.portWrite a beats))
      (first : (s.banks.get b).pairIn .second = none) : s.HandsBack b (s.endWrite b a beats)
  | atomicRead {a : PortAccess} {p : AtomicPair} (operation : (s.banks.get b).operation = some (.atomicRead a))
      (pair : (s.banks.get b).pair = some p) (first : p.slot = .first) : s.HandsBack b (s.endAtomicRead b p)
  | secondary {offset : Nat} {beats : List WriteBeat}
      (operation : (s.banks.get b).operation = some (.secondaryWrite offset beats))
      (first : (s.banks.get b).pairIn .second = none) : s.HandsBack b (s.endSecondary b offset beats)
  | recovery {offset length : Nat} {n : PortId} {ref : Nat}
      (operation : (s.banks.get b).operation = some (.recoveryRead offset length n ref))
      (first : (s.banks.get b).pairIn .second = none) : s.HandsBack b (s.endRecovery b offset length n ref)
  | refresh {o : Operation} (operation : (s.banks.get b).operation = some o)
      (kind : o = .refresh ∨ o = .catchUpRefresh) (first : (s.banks.get b).pairIn .second = none) :
      s.HandsBack b (s.clearOperation b)
  | stray (unheld : (s.banks.get b).pairHolds = false) (first : (s.banks.get b).pairIn .second = none) :
      s.HandsBack b (s.clearOperation b)

theorem Sequencer.pairIn_eq_some_iff {q : Sequencer} {slot : PairSlot} {p : AtomicPair} :
    q.pairIn slot = some p ↔ q.pair = some p ∧ p.slot = slot := by
  simp [Sequencer.pairIn, Option.filter_eq_some_iff]

theorem Sequencer.pairIn_eq_none_iff {q : Sequencer} {slot : PairSlot} :
    q.pairIn slot = none ↔ ∀ p, q.pair = some p → p.slot ≠ slot := by
  simp [Sequencer.pairIn, Option.filter_eq_none_iff]

theorem PairSlot.eq_first_of_ne_second {x : PairSlot} (h : x ≠ .second) : x = .first := by
  cases x <;> simp_all

section
variable {s : State} {b : Bank}

theorem State.endBank_handsBack (s : State) (b : Bank) : s.HandsBack b (s.endBank b) := by
  unfold State.endBank
  split
  · rename_i p hp
    obtain ⟨pair, second⟩ := Sequencer.pairIn_eq_some_iff.mp hp
    exact .pairEnd pair second
  · rename_i first
    have hfirst := Sequencer.pairIn_eq_none_iff.mp first
    split
    · exact .read ‹_› first
    · exact .write ‹_› first
    · rename_i a ho
      split
      · rename_i p hp
        obtain ⟨pair, slot⟩ := Sequencer.pairIn_eq_some_iff.mp hp
        exact .atomicRead ho pair slot
      · rename_i hp
        have hnone : (s.banks.get b).pair = none := Option.eq_none_iff_forall_ne_some.mpr fun p pair =>
          Sequencer.pairIn_eq_none_iff.mp hp p pair (PairSlot.eq_first_of_ne_second (hfirst p pair))
        exact .stray (by simp only [Sequencer.pairHolds, hnone, ho]) first
    · rename_i a v ho
      refine .stray ?_ first
      cases pair : (s.banks.get b).pair with
      | none => simp only [Sequencer.pairHolds, pair, ho]
      | some p => simp [Sequencer.pairHolds, pair, ho, PairSlot.eq_first_of_ne_second (hfirst p pair)]
    · exact .secondary ‹_› first
    · exact .recovery ‹_› first
    · exact .refresh ‹_› (.inl rfl) first
    · exact .refresh ‹_› (.inr rfl) first
    · exact .nothing ‹_› first

/-! ### The sequencer afterwards -/

theorem State.finishAccess_banks (s : State) (a : PortAccess) (r : CompletionResult) : (s.finishAccess a r).banks = s.banks :=
  (s.finishAccess_frame a r).banks

theorem State.primaryWrite_banks (s : State) (b : Bank) (a : PortAccess) (beats : List WriteBeat) :
    (s.primaryWrite b a beats).banks = s.banks := by
  rw [State.primaryWrite_eq]

theorem State.faultedRead_banks (s : State) (b : Bank) (a : PortAccess) (e : QueueEntry) :
    (s.faultedRead b a e).banks = s.banks := by
  unfold State.faultedRead
  split
  · rfl
  · split <;> rfl

theorem State.endRead_banks (s : State) (b : Bank) (a : PortAccess) : (s.endRead b a).banks = (s.clearOperation b).banks := by
  unfold State.endRead
  dsimp only
  split
  · rfl
  · split
    · exact State.faultedRead_banks _ b a _
    · rfl

theorem State.endWrite_banks (s : State) (b : Bank) (a : PortAccess) (beats : List WriteBeat) :
    (s.endWrite b a beats).banks = (s.clearOperation b).banks := by
  rw [State.endWrite, State.finishAccess_banks, State.primaryWrite_banks]

theorem State.endAtomicRead_banks (s : State) (b : Bank) (p : AtomicPair) : (s.endAtomicRead b p).banks =
    s.banks.set b { s.banks.get b with operation := none, pair := some { p with result := some (s.atomicOutcome b p) } } := by
  unfold State.endAtomicRead State.reportFailedAtomic
  dsimp only
  split <;> rfl

theorem State.failedPairEnd_banks (s : State) (b : Bank) (a : PortAccess) : (s.failedPairEnd b a).banks = s.banks := by
  rw [State.failedPairEnd, State.finishAccess_banks]
  split <;> rfl

theorem State.endPair_banks (s : State) (b : Bank) (p : AtomicPair) :
    (s.endPair b p).banks = s.banks.set b { s.banks.get b with operation := none, pair := none } := by
  unfold State.endPair
  dsimp only
  split
  · rw [State.finishAccess_banks, State.primaryWrite_banks]
    rfl
  · rw [State.failedPairEnd_banks]
    rfl
  · rw [State.failedPairEnd_banks]
    rfl

theorem State.endRecovery_banks (s : State) (b : Bank) (offset length : Nat) (n : PortId) (ref : Nat) :
    (s.endRecovery b offset length n ref).banks = (s.clearOperation b).banks := by
  unfold State.endRecovery
  dsimp only
  split
  · rfl
  · split <;> rfl

/-- A sequencer that has handed back: no operation, and of the pair that held it at most the wait for its second slot. -/
structure Sequencer.EndsAs (q r : Sequencer) : Prop where
  operation : r.operation = none
  first     : r.pairIn .second = none
  pair      : ∀ p, r.pair = some p → ∃ p₀, q.pair = some p₀ ∧ p.slot = p₀.slot ∧ p.access = p₀.access

theorem Sequencer.endsAs_clear {q : Sequencer} (first : q.pairIn .second = none) : q.EndsAs { q with operation := none } :=
  ⟨rfl, first, fun p hp => ⟨p, hp, rfl, rfl⟩⟩

/-- Handing back changes the sequencer of the bank alone. -/
theorem State.HandsBack.banks {t : State} (h : s.HandsBack b t) :
    ∃ r, (s.banks.get b).EndsAs r ∧ t.banks = s.banks.set b r := by
  cases h with
  | nothing operation first =>
    exact ⟨s.banks.get b, ⟨operation, first, fun p hp => ⟨p, hp, rfl, rfl⟩⟩, (PerBank.set_get_self _ b).symm⟩
  | pairEnd pair second =>
    exact ⟨_, ⟨rfl, rfl, fun p hp => by cases hp⟩, s.endPair_banks b _⟩
  | read operation first => exact ⟨_, Sequencer.endsAs_clear first, s.endRead_banks b _⟩
  | write operation first => exact ⟨_, Sequencer.endsAs_clear first, s.endWrite_banks b _ _⟩
  | @atomicRead a p operation pair first =>
    refine ⟨_, ⟨rfl, ?_, ?_⟩, s.endAtomicRead_banks b _⟩
    · rw [Sequencer.pairIn_eq_none_iff]
      rintro r hr
      cases hr
      simp [first]
    · rintro r hr
      cases hr
      exact ⟨p, pair, rfl, rfl⟩
  | secondary operation first => exact ⟨_, Sequencer.endsAs_clear first, rfl⟩
  | recovery operation first => exact ⟨_, Sequencer.endsAs_clear first, s.endRecovery_banks b _ _ _ _⟩
  | refresh operation kind first => exact ⟨_, Sequencer.endsAs_clear first, rfl⟩
  | stray unheld first => exact ⟨_, Sequencer.endsAs_clear first, rfl⟩

/-- A bank that has handed back has no result left. -/
theorem State.endBank_idle (s : State) (b : Bank) :
    ((s.endBank b).banks.get b).operation = none ∧ ((s.endBank b).banks.get b).pairIn .second = none := by
  obtain ⟨r, hr, hbanks⟩ := (s.endBank_handsBack b).banks
  rw [hbanks, PerBank.get_set_self]
  exact ⟨hr.operation, hr.first⟩

theorem State.endBank_banks_of_ne {c : Bank} (h : c ≠ b) : (s.endBank b).banks.get c = s.banks.get c := by
  obtain ⟨r, -, hbanks⟩ := (s.endBank_handsBack b).banks
  rw [hbanks, PerBank.get_set_of_ne _ h]

/-- After every bank has handed back, none has a result left (R12). -/
theorem State.endBanks_banksIdle (s : State) : s.endBanks.BanksIdle := by
  have idle (l : List Bank) (t : State) (b : Bank)
      (h : b ∈ l ∨ ((t.banks.get b).operation = none ∧ (t.banks.get b).pairIn .second = none)) :
      ((l.foldl State.endBank t).banks.get b).operation = none
        ∧ ((l.foldl State.endBank t).banks.get b).pairIn .second = none := by
    induction l generalizing t with
    | nil => simpa using h
    | cons c rest ih =>
      rw [List.foldl_cons]
      by_cases hc : b = c
      · subst hc
        exact ih _ (.inr (t.endBank_idle b))
      · refine ih _ (h.imp (fun hb => List.mem_of_ne_of_mem hc hb) fun hb => ?_)
        rwa [State.endBank_banks_of_ne hc]
  exact fun b hb => idle allBanks s b (.inl hb)

end

end Sys2Proof.Machine
end

section
/-! SUPPORT. That the expiries leave none due and that no result makes an entry due; the slot end with nothing to hand back; and the
statements about slot ends (O31, O32, O34). -/

namespace Sys2Proof.Machine

/-! ### Expiries (R66) -/

/-- Every queue has kept a part of its entries, in their order. -/
def QueuesShrink (s t : State) : Prop := ∀ n : PortId, (t.queues.get n).Sublist (s.queues.get n)

theorem QueuesShrink.refl (s : State) : QueuesShrink s s := fun _ => .refl _

theorem QueuesShrink.trans {s t u : State} (h : QueuesShrink s t) (k : QueuesShrink t u) : QueuesShrink s u :=
  fun n => (k n).trans (h n)

theorem State.finishEntry_shrinks (s : State) (n : PortId) (ref : Nat) (r : CompletionResult) :
    QueuesShrink s (s.finishEntry n ref r) := by
  intro m
  rw [State.finishEntry_eq, PerPort.get_set]
  split
  · rename_i hm
    rw [hm]
    exact List.filter_sublist
  · exact .refl _

theorem State.failEntry_shrinks (s : State) (n : PortId) (e : QueueEntry) (status : ResponseStatus) (kind : FaultKind)
    (position : Nat) : QueuesShrink s (s.failEntry n e status kind position) :=
  (s.reportEntry kind n e position).finishEntry_shrinks n e.ref (bareResult status)

/-- No entry of a port is due to expire. -/
abbrev State.NoneDue (s : State) (n : PortId) : Prop := ∀ e ∈ s.queues.get n, e.expiryDue = false

theorem State.NoneDue.of_shrink {s t : State} {n : PortId} (h : s.NoneDue n) (k : QueuesShrink s t) : t.NoneDue n :=
  fun e he => h e ((k n).subset he)

section
variable (s : State) (n : PortId)

theorem State.expireOldest_shrinks : QueuesShrink s (s.expireOldest n) := by
  unfold State.expireOldest
  split
  · exact s.failEntry_shrinks _ _ _ _ _
  · exact .refl s

theorem State.expirePort_shrinks : QueuesShrink s (s.expirePort n) :=
  foldl_of_step .refl .trans (fun t _ => t.expireOldest_shrinks n) _ s

/-- One expiry leaves fewer entries due, if any was. -/
theorem State.expireOldest_fewer : (((s.expireOldest n).queues.get n).filter QueueEntry.expiryDue).length
    ≤ ((s.queues.get n).filter QueueEntry.expiryDue).length - 1 := by
  cases he : s.oldestExpiring n with
  | none =>
    have hnone : (s.queues.get n).filter QueueEntry.expiryDue = [] := by
      rw [List.filter_eq_nil_iff]
      exact List.find?_eq_none.mp he
    simp [State.expireOldest, he, hnone]
  | some e =>
    have hmem : e ∈ (s.queues.get n).filter QueueEntry.expiryDue :=
      List.mem_filter.mpr ⟨List.mem_of_find?_eq_some he, List.find?_some he⟩
    have hqueue : (s.expireOldest n).queues.get n = (s.queues.get n).filter fun x => !x.hasRef e.ref := by
      simp only [State.expireOldest, he, State.failEntry_eq, PerPort.get_set_self]
    rw [hqueue, List.filter_comm]
    exact Nat.le_sub_one_of_lt (List.length_filter_lt_length_iff_exists.mpr ⟨e, hmem, by simp [QueueEntry.hasRef]⟩)

theorem State.noneDue_of_foldl {α : Type} (l : List α)
    (h : ((s.queues.get n).filter QueueEntry.expiryDue).length ≤ l.length) :
    (l.foldl (fun t _ => t.expireOldest n) s).NoneDue n := by
  induction l generalizing s with
  | nil =>
    have hnil : (s.queues.get n).filter QueueEntry.expiryDue = [] := List.length_eq_zero_iff.mp (Nat.le_zero.mp h)
    intro e he
    simpa using (List.filter_eq_nil_iff.mp hnil) e he
  | cons x rest ih =>
    have hfewer := s.expireOldest_fewer n
    rw [List.length_cons] at h
    exact ih (s.expireOldest n) (by omega)

/-- The expiries of a port leave none due in it. -/
theorem State.expirePort_noneDue : (s.expirePort n).NoneDue n := s.noneDue_of_foldl n _ le_rfl

theorem State.foldl_expirePort_noneDue {l : List PortId} (h : n ∈ l) : (l.foldl State.expirePort s).NoneDue n := by
  induction l generalizing s with
  | nil => cases h
  | cons m rest ih =>
    rw [List.foldl_cons]
    rcases List.mem_cons.mp h with rfl | hrest
    · exact (s.expirePort_noneDue n).of_shrink (foldl_of_step .refl .trans State.expirePort_shrinks rest _)
    · exact ih _ hrest

theorem State.expirePorts_noneDue {turns : List PortId} (h : n ∈ turns) : (s.expirePorts turns).NoneDue n :=
  State.foldl_expirePort_noneDue _ n h

/-- What the last boundary owed has been taken. -/
theorem State.settle_settled : s.settle.Settled :=
  ⟨by rw [State.settle, (State.expireAll_frame _).sync, State.lostDue_loseLock],
    fun n => State.foldl_expirePort_noneDue _ n (mem_allPorts n)⟩

end

/-! ### No result makes an entry due -/

/-- Where no entry was due to expire, none is. -/
def NoNewDue (s t : State) : Prop := ∀ n : PortId, s.NoneDue n → t.NoneDue n

theorem QueuesShrink.noNewDue {s t : State} (h : QueuesShrink s t) : NoNewDue s t := fun _ k => k.of_shrink h

theorem NoNewDue.refl (s : State) : NoNewDue s s := fun _ h => h

theorem NoNewDue.trans {s t u : State} (h : NoNewDue s t) (k : NoNewDue t u) : NoNewDue s u := fun n hn => k n (h n hn)

theorem NoNewDue.of_queues {s t : State} (h : t.queues = s.queues) : NoNewDue s t := fun n k => by
  rw [State.NoneDue, h]
  exact k

theorem State.updateEntry_noNewDue (s : State) (n : PortId) (ref : Nat) {f : QueueEntry → QueueEntry}
    (h : ∀ e, e.expiryDue = false → (f e).expiryDue = false) : NoNewDue s (s.updateEntry n ref f) := by
  intro m hm e he
  rw [State.updateEntry_eq_of_ref, PerPort.get_set] at he
  split at he
  · rename_i heq
    subst heq
    obtain ⟨x, hx, rfl⟩ := List.mem_map.mp he
    split
    · exact h x (hm x hx)
    · exact hm x hx
  · exact hm e he

section
variable {s : State} {b : Bank}

theorem State.finishAccess_noNewDue (s : State) (a : PortAccess) (r : CompletionResult) : NoNewDue s (s.finishAccess a r) := by
  unfold State.finishAccess
  split
  · exact .refl s
  · exact (s.finishEntry_shrinks _ _ _).noNewDue

theorem State.faultedRead_noNewDue (s : State) (b : Bank) (a : PortAccess) (e : QueueEntry) :
    NoNewDue s (s.faultedRead b a e) := by
  unfold State.faultedRead
  split
  · exact (s.failEntry_shrinks _ _ _ _ _).noNewDue
  · split
    · exact NoNewDue.trans (.of_queues rfl) (State.updateEntry_noNewDue _ _ _ fun x _ => by simp [QueueEntry.expiryDue])
    · exact (s.failEntry_shrinks _ _ _ _ _).noNewDue

theorem State.endRead_noNewDue (s : State) (b : Bank) (a : PortAccess) : NoNewDue s (s.endRead b a) := by
  have hclear : NoNewDue s (s.clearOperation b) := .of_queues rfl
  unfold State.endRead
  dsimp only
  split
  · exact hclear
  · split
    · exact hclear.trans (State.faultedRead_noNewDue _ _ _ _)
    · exact hclear.trans (State.finishEntry_shrinks _ _ _ _).noNewDue

theorem State.endAtomicRead_noNewDue (s : State) (b : Bank) (p : AtomicPair) : NoNewDue s (s.endAtomicRead b p) := by
  refine NoNewDue.trans ?_ (State.updateEntry_noNewDue _ _ _ fun x hx => hx)
  apply NoNewDue.of_queues
  unfold State.reportFailedAtomic
  split <;> rfl

theorem State.primaryWrite_queues (s : State) (b : Bank) (a : PortAccess) (beats : List WriteBeat) :
    (s.primaryWrite b a beats).queues = s.queues := by
  rw [State.primaryWrite_eq]

theorem State.endWrite_noNewDue (s : State) (b : Bank) (a : PortAccess) (beats : List WriteBeat) :
    NoNewDue s (s.endWrite b a beats) := by
  refine NoNewDue.trans (.of_queues ?_) (State.finishAccess_noNewDue _ _ _)
  rw [State.primaryWrite_queues]
  rfl

theorem State.failedPairEnd_noNewDue (s : State) (b : Bank) (a : PortAccess) : NoNewDue s (s.failedPairEnd b a) := by
  refine NoNewDue.trans (.of_queues ?_) (State.finishAccess_noNewDue _ _ _)
  split <;> rfl

theorem State.endPair_noNewDue (s : State) (b : Bank) (p : AtomicPair) : NoNewDue s (s.endPair b p) := by
  have hclear : NoNewDue s (s.setSequencer b { s.banks.get b with operation := none, pair := none }) := .of_queues rfl
  unfold State.endPair
  dsimp only
  split
  · exact (hclear.trans (.of_queues (State.primaryWrite_queues _ _ _ _))).trans (State.finishAccess_noNewDue _ _ _)
  · exact hclear.trans (State.failedPairEnd_noNewDue _ _ _)
  · exact hclear.trans (State.failedPairEnd_noNewDue _ _ _)

theorem State.endRecovery_noNewDue (s : State) (b : Bank) (offset length : Nat) (n : PortId) (ref : Nat) :
    NoNewDue s (s.endRecovery b offset length n ref) := by
  have hclear : NoNewDue s ((s.clearOperation b).removePerformed b) := .of_queues rfl
  unfold State.endRecovery
  dsimp only
  split
  · exact hclear
  · split
    · exact hclear.trans (State.failEntry_shrinks _ _ _ _ _ _).noNewDue
    · refine NoNewDue.trans ?_ (State.finishEntry_shrinks _ _ _ _).noNewDue
      exact .of_queues rfl

theorem State.HandsBack.noNewDue {t : State} (h : s.HandsBack b t) : NoNewDue s t := by
  cases h with
  | nothing => exact .refl s
  | pairEnd => exact s.endPair_noNewDue b _
  | read => exact s.endRead_noNewDue b _
  | write => exact s.endWrite_noNewDue b _ _
  | atomicRead => exact s.endAtomicRead_noNewDue b _
  | secondary => exact .of_queues rfl
  | recovery => exact s.endRecovery_noNewDue b _ _ _ _
  | refresh => exact .of_queues rfl
  | stray => exact .of_queues rfl

theorem State.Settled.endBank (h : s.Settled) (b : Bank) : (s.endBank b).Settled :=
  ⟨by rw [(s.endBank_frame b).sync, h.1], fun n => (s.endBank_handsBack b).noNewDue n (h.2 n)⟩

theorem State.Settled.endBanks (h : s.Settled) : s.endBanks.Settled :=
  (((h.endBank .lc0).endBank .lc1).endBank .uc0).endBank .uc1

end

end Sys2Proof.Machine
end

section
/-! SUPPORT. The slot end with nothing to hand back, by its kind (R13), and the statements about slot ends (O31, O32, O34). -/

namespace Sys2Proof.Machine

section
variable {s : State} {check : DrainCheckOrder}

/-! ### The slot end (R12, R13, R16) -/

theorem exec_slotEnd_of_running (ht : s.scheduler.timer = .running) : exec (.slotEnd check) s = .next (s.endSlot check) := by
  rw [exec, execSlotEnd, if_pos (State.inSlot_of_running ht)]

theorem State.inSlot_of_not_running (ht : s.scheduler.timer ≠ .running) : s.inSlot = false := decide_eq_false ht

theorem exec_slotEnd_of_not_running (ht : s.scheduler.timer ≠ .running) : exec (.slotEnd check) s = .next s := by
  rw [exec, execSlotEnd, State.inSlot_of_not_running ht, if_neg Bool.false_ne_true]

theorem exec_truncation_of_falls (ht : s.scheduler.timer = .running) (h : s.truncationFalls = true)
    (hf : s.forcedFalls = false) : exec (.truncation check) s = .next (s.endSlot check) := by
  rw [exec, execTruncation, State.inSlot_of_running ht, h, hf]
  rfl

theorem exec_forcedBoundary_of_falls (ht : s.scheduler.timer = .running) (h : s.forcedFalls = true) :
    exec .forcedBoundary s = .next (s.endSlot .checkAfterExpiry) := by
  rw [exec, execForcedBoundary, State.inSlot_of_running ht, h]
  rfl

theorem exec_forcedBoundary_of_not_falls (h : s.scheduler.timer ≠ .running ∨ s.forcedFalls = false) :
    exec .forcedBoundary s = .next s := by
  rw [exec, execForcedBoundary]
  rcases h with h | h
  · rw [State.inSlot_of_not_running h, Bool.false_and, if_neg Bool.false_ne_true]
  · rw [h, Bool.and_false, if_neg Bool.false_ne_true]

/-! ### The command of one result (R12) -/

section
variable {b : Bank} (ht : s.scheduler.timer = .running)
include ht

theorem exec_readComplete_of_operation {a : PortAccess} (ho : (s.banks.get b).operation = some (.portRead a)) :
    exec (.readComplete b) s = .next (s.settle.endBank b) := by
  simp only [exec, execReadComplete, State.inSlot_of_running ht, ho]

theorem exec_writeComplete_of_operation {a : PortAccess} {beats : List WriteBeat}
    (ho : (s.banks.get b).operation = some (.portWrite a beats)) :
    exec (.writeComplete b) s = .next (s.settle.endBank b) := by
  simp only [exec, execWriteComplete, State.inSlot_of_running ht, ho]

theorem exec_atomicReadComplete_of_operation {a : PortAccess} (ho : (s.banks.get b).operation = some (.atomicRead a)) :
    exec (.atomicReadComplete b) s = .next (s.settle.endBank b) := by
  simp only [exec, execAtomicReadComplete, State.inSlot_of_running ht, ho]

theorem exec_atomicPairEnd_of_second {p : AtomicPair} (hp : (s.banks.get b).pairIn .second = some p) :
    exec (.atomicPairEnd b) s = .next (s.settle.endBank b) := by
  simp only [exec, execAtomicPairEnd, State.inSlot_of_running ht, hp]

theorem exec_secondaryWriteComplete_of_operation {offset : Nat} {beats : List WriteBeat}
    (ho : (s.banks.get b).operation = some (.secondaryWrite offset beats)) :
    exec (.secondaryWriteComplete b) s = .next (s.settle.endBank b) := by
  simp only [exec, execSecondaryWriteComplete, State.inSlot_of_running ht, ho]

theorem exec_recoveryReadComplete_of_operation {offset length : Nat} {n : PortId} {ref : Nat}
    (ho : (s.banks.get b).operation = some (.recoveryRead offset length n ref)) :
    exec (.recoveryReadComplete b) s = .next (s.settle.endBank b) := by
  simp only [exec, execRecoveryReadComplete, State.inSlot_of_running ht, ho]

end

/-- With nothing owed and nothing to hand back, a slot end is the next position or a boundary. -/
theorem State.endSlot_of_idle (hs : s.Settled) (hb : s.BanksIdle) (check : DrainCheckOrder) :
    s.endSlot check = s.advance check := by
  rw [State.endSlot, hs.settle_eq, s.endBanks_of_idle hb]

theorem State.forcedFalls_eq_false (h : s.scheduler.forcedDue = false ∨ s.heldOpen = true) : s.forcedFalls = false := by
  rcases h with h | h <;> simp [State.forcedFalls, h]

theorem State.truncationFalls_eq_false (h : s.sync.truncationPending = false ∨ s.heldOpen = true) :
    s.truncationFalls = false := by
  rcases h with h | h <;> simp [State.truncationFalls, h]

/-! ### A slot end below the last position (R13) -/

theorem State.advance_of_plain (hf : s.forcedFalls = false) (ht : s.truncationFalls = false)
    (hp : s.scheduler.position + 1 < s.slots) : s.advance check = s.nextPosition (s.scheduler.position + 1) := by
  have kind : s.slotEndKind = .plain := by simp [State.slotEndKind, hf, ht, hp]
  rw [State.advance, kind]

/-! ### A normal boundary (R14, R64, R149) -/

theorem State.advance_of_normal (hf : s.forcedFalls = false) (hp : s.slots ≤ s.scheduler.position + 1) :
    s.advance check = s.cycleReactions check := by
  have kind : s.slotEndKind = .normal := by simp [State.slotEndKind, hf, Nat.not_lt.mpr hp]
  rw [State.advance, kind]

theorem QueueEntry.ageAt_eq (e : QueueEntry) (limit : BitVec 8) : e.ageAt limit =
    if e.state = .waiting then
      if limit ≠ 0 ∧ limit.toNat < e.age + 1 then { e with expiring := true } else { e with age := min 255 (e.age + 1) }
    else e := by
  have nonzero : limit.toNat ≠ 0 ↔ limit ≠ 0 := by rw [Ne, Ne, ← BitVec.toNat_inj]; rfl
  simp only [QueueEntry.ageAt, nonzero]

theorem SyncUnit.judge_eq (u : SyncUnit) : u.judge = if u.pulseMark = false ∧ u.state = .locked then
    if u.missCount = 0 then { u with missCount := 1 } else { u with lostDue := true }
    else { u with pulseMark := false } := by
  unfold SyncUnit.judge
  refine if_congr Iff.rfl ?_ rfl
  by_cases h : u.missCount = 0
  · simp [h]
  · rw [if_neg h, if_neg (by omega)]

theorem SyncUnit.atBoundary_of_no_truncation {u : SyncUnit} (h : u.truncationPending = false) : u.atBoundary = u.judge := by
  rw [SyncUnit.atBoundary, h, if_neg Bool.false_ne_true]

/-- What a boundary leaves due of the commit controller's reaction, but for a check taken first in a drain (log entry 4). -/
theorem State.markReaction_eq (h : check = .checkAfterExpiry ∨ s.commit.state ≠ .draining) :
    s.markReaction check = s.setCommit { s.commit with
      reactionDue := decide (check = .checkAfterExpiry ∨ s.commit.state = .waiting) } := by
  cases check with
  | checkAfterExpiry => simp [State.markReaction]
  | checkFirst =>
    have hstate : s.commit.state ≠ .draining := h.resolve_left (by simp)
    rw [State.markReaction_checkFirst]
    cases hc : s.commit.state with
    | none => simp [State.markReaction, State.swapDue, State.abandonDue, State.countDrain, hc, State.setCommit]
    | waiting => simp [State.markReaction, State.swapDue, hc]
    | draining => exact absurd hc hstate

theorem State.cycleReactions_eq (h : check = .checkAfterExpiry ∨ s.commit.state ≠ .draining) :
    s.cycleReactions check = { s with
      scheduler := { s.scheduler with timer := .starting, position := 0, cycleCount := s.scheduler.cycleCount + 1 }
      queues := s.queues.mapPort fun n q => q.map fun e => e.ageAt (s.commit.active.waitLimits.get n)
      sync := s.sync.atBoundary
      commit := { s.commit with reactionDue := decide (check = .checkAfterExpiry ∨ s.commit.state = .waiting) } } := by
  rw [State.cycleReactions, State.markReaction_eq (by exact h)]
  rfl

/-! ### A forced boundary (R16, R186) -/

theorem State.advance_of_forced (hf : s.forcedFalls = true) : s.advance check = s.forcedBoundary := by
  have kind : s.slotEndKind = .forced := by simp [State.slotEndKind, hf]
  rw [State.advance, kind]

/-- What a traffic reset removes from the backlogs: every RECOVERY-READ that is not being performed (R93). -/
theorem BacklogEntry.recoveryOf_none (e : BacklogEntry) : e.recoveryOf none = match e.work with
    | .secondaryWrite _ => false
    | .recoveryRead _ _ => !e.performing := by
  cases h : e.work <;> simp [BacklogEntry.recoveryOf, h]

/-- A bank in the first slot of a pair after it has handed back was so before. -/
theorem State.endBank_inFirstSlot (s : State) (b c : Bank) (h : ((s.endBank b).banks.get c).inFirstSlot = true) :
    (s.banks.get c).inFirstSlot = true := by
  obtain ⟨r, hr, hbanks⟩ := (s.endBank_handsBack b).banks
  rw [hbanks, PerBank.get_set] at h
  split at h
  · rename_i hc
    subst hc
    cases hp : r.pair with
    | none => simp [Sequencer.inFirstSlot, hp] at h
    | some p =>
      obtain ⟨p₀, hp₀, hslot, -⟩ := hr.pair p hp
      simpa [Sequencer.inFirstSlot, hp, hp₀, hslot] using h
  · exact h

/-- An atomic that holds a boundary open after the results did so before them (R16, R147). -/
theorem State.endBanks_heldOpen (h : s.heldOpen = false) : s.endBanks.heldOpen = false := by
  have back : ∀ b, (s.endBanks.banks.get b).inFirstSlot = true → (s.banks.get b).inFirstSlot = true :=
    foldl_of_step (R := fun s t => ∀ b, (t.banks.get b).inFirstSlot = true → (s.banks.get b).inFirstSlot = true)
      (fun _ _ h => h) (fun h k b hb => h b (k b hb)) State.endBank_inFirstSlot allBanks s
  simp only [State.heldOpen, List.any_eq_false] at h ⊢
  exact fun b hb hfirst => h b hb (back b hfirst)

/-- A forced boundary that falls falls after the results have been handed back too. -/
theorem State.settle_endBanks_forcedFalls (h : s.forcedFalls = true) : s.settle.endBanks.forcedFalls = true := by
  simp only [State.forcedFalls, Bool.and_eq_true, Bool.not_eq_true'] at h ⊢
  obtain ⟨hdue, hopen⟩ := h
  refine ⟨by rw [(State.endBanks_frame _).scheduler, s.settle_frame.scheduler, hdue], State.endBanks_heldOpen ?_⟩
  rw [State.heldOpen, s.settle_frame.banks]
  exact hopen

theorem State.endSlot_of_forced (h : s.forcedFalls = true) (check : DrainCheckOrder) :
    s.endSlot check = s.settle.endBanks.forcedBoundary := by
  rw [State.endSlot, State.advance_of_forced (State.settle_endBanks_forcedFalls h)]

/-! ### After any slot end -/

theorem State.advance_timer (s : State) (check : DrainCheckOrder) : (s.advance check).scheduler.timer = .starting := by
  have mark (t : State) : (t.markReaction check).scheduler = t.scheduler := by
    cases check
    · rw [State.markReaction_checkFirst]
      split <;> rfl
    · rfl
  unfold State.advance
  split
  · rfl
  · rw [State.cycleReactions, mark]
    rfl
  · rw [State.cycleReactions, mark]
    rfl
  · rfl

theorem State.markReaction_banks (s : State) (check : DrainCheckOrder) : (s.markReaction check).banks = s.banks := by
  cases check
  · rw [State.markReaction_checkFirst]
    split <;> rfl
  · rfl

/-- A boundary changes no sequencer but its refresh debt (R102). -/
theorem State.advance_bank (s : State) (check : DrainCheckOrder) (b : Bank) :
    ∃ debt, (s.advance check).banks.get b = { s.banks.get b with debt := debt } := by
  have kept : ∃ debt, s.banks.get b = { s.banks.get b with debt := debt } := ⟨_, rfl⟩
  have debts : ∃ debt, s.setDebts.banks.get b = { s.banks.get b with debt := debt } :=
    ⟨_, PerBank.get_mapBank _ _ _⟩
  unfold State.advance
  split
  · exact kept
  · rw [State.cycleReactions, State.markReaction_banks]
    exact kept
  · rw [State.cycleReactions, State.markReaction_banks]
    exact debts
  · exact debts

theorem State.advance_banksIdle (h : s.BanksIdle) (check : DrainCheckOrder) : (s.advance check).BanksIdle := by
  intro b hb
  obtain ⟨debt, hdebt⟩ := s.advance_bank check b
  rw [hdebt]
  exact h b hb

end

end Sys2Proof.Machine

namespace Sys2Proof.Proofs

open Sys2Proof.Machine

/-- Settles O31: the slot end with nothing to hand back, below the last position and at it. -/
theorem slotEndAdvances : Obligations.SlotEndAdvances := by
  refine ⟨fun s check ht hs hb hfall hp => ?_, fun s check ht hs hb hforced htrunc hp hcheck => ?_,
    fun s check => exec_slotEnd_of_not_running⟩
  · rw [exec_slotEnd_of_running ht, State.endSlot_of_idle hs hb,
      State.advance_of_plain (State.forcedFalls_eq_false (hfall.imp_left (·.1)))
        (State.truncationFalls_eq_false (hfall.imp_left (·.2))) hp]
    rfl
  · rw [exec_slotEnd_of_running ht, State.endSlot_of_idle hs hb,
      State.advance_of_normal (State.forcedFalls_eq_false (.inl hforced)) hp, State.cycleReactions_eq hcheck,
      SyncUnit.atBoundary_of_no_truncation htrunc, SyncUnit.judge_eq]
    simp only [QueueEntry.ageAt_eq]

/-- Settles O34: the forced boundary that falls, and its two reasons not to. -/
theorem forcedBoundaryFalls : Obligations.ForcedBoundaryFalls := by
  constructor
  · intro s removed ht hs hb hdue hopen
    have hfalls : s.forcedFalls = true := by simp [State.forcedFalls, hdue, hopen]
    have hremoved : removed = fun e => e.recoveryOf none := funext fun e => (BacklogEntry.recoveryOf_none e).symm
    rw [exec_forcedBoundary_of_falls ht hfalls, State.endSlot_of_idle hs hb, State.advance_of_forced hfalls, hremoved]
    rfl
  · rintro s (ht | hdue | hopen)
    · exact exec_forcedBoundary_of_not_falls (.inl ht)
    · exact exec_forcedBoundary_of_not_falls (.inr (State.forcedFalls_eq_false (.inl hdue)))
    · exact exec_forcedBoundary_of_not_falls (.inr (State.forcedFalls_eq_false (.inr hopen)))

/-- Settles O32: what is owed is settled, every bank hands back, and the slot end of the state then reached is the same. -/
theorem slotEndHandsEverythingBack : Obligations.SlotEndHandsEverythingBack := by
  intro s check ht
  dsimp only
  have hu : s.settle.endBanks = (((s.settle.endBank .lc0).endBank .lc1).endBank .uc0).endBank .uc1 := rfl
  rw [← hu]
  have hsettled : s.settle.endBanks.Settled := s.settle_settled.endBanks
  have hidle : s.settle.endBanks.BanksIdle := State.endBanks_banksIdle _
  have hscheduler : s.settle.endBanks.scheduler = s.scheduler :=
    (State.endBanks_frame _).scheduler.trans s.settle_frame.scheduler
  refine ⟨hsettled, hidle, hscheduler, ⟨s.endSlot check, exec_slotEnd_of_running ht, ?_, State.advance_timer _ _,
    State.advance_banksIdle hidle check, exec_truncation_of_falls ht, fun hf => ?_⟩, fun b => ⟨?_, ?_, ?_, ?_, ?_, ?_⟩⟩
  · rw [exec_slotEnd_of_running (by rw [hscheduler, ht]), State.endSlot_of_idle hsettled hidle]
    rfl
  · rw [exec_forcedBoundary_of_falls ht hf, State.endSlot_of_forced hf, State.endSlot_of_forced hf]
  · exact fun a ho => exec_readComplete_of_operation ht ho
  · exact fun a beats ho => exec_writeComplete_of_operation ht ho
  · exact fun a ho => exec_atomicReadComplete_of_operation ht ho
  · exact fun p hp hslot => exec_atomicPairEnd_of_second ht (Sequencer.pairIn_eq_some_iff.mpr ⟨hp, hslot⟩)
  · exact fun a beats ho => exec_secondaryWriteComplete_of_operation ht ho
  · exact fun a l n ref ho => exec_recoveryReadComplete_of_operation ht ho

end Sys2Proof.Proofs
end

section
/-! SUPPORT. The tie between a queue and its completion list, reference by reference; what a run of expiries leaves, and the statement about
TIMEOUT (O35). -/

namespace Sys2Proof.Machine

/-! ### References (R56, R158) -/

@[simp] theorem CompletionEntry.finish_ref (c : CompletionEntry) (ref : Nat) (r : CompletionResult) : (c.finish ref r).ref = c.ref := by
  unfold CompletionEntry.finish
  split <;> rfl

theorem CompletionEntry.finish_pending_iff (c : CompletionEntry) (ref : Nat) (r : CompletionResult) :
    (c.finish ref r).state = .pending ↔ c.state = .pending ∧ c.ref ≠ ref := by
  unfold CompletionEntry.finish
  by_cases h : c.ref = ref ∧ c.state = .pending
  · simp [h]
  · rw [if_neg h]
    exact ⟨fun hc => ⟨hc, fun hr => h ⟨hr, hc⟩⟩, fun hc => hc.1⟩

theorem mem_pendingRefs {l : List CompletionEntry} {ref : Nat} :
    ref ∈ pendingRefs l ↔ ∃ c ∈ l, c.state = .pending ∧ c.ref = ref := by
  simp [pendingRefs, and_assoc]

theorem pendingRefs_sublist (l : List CompletionEntry) : (pendingRefs l).Sublist (l.map (·.ref)) :=
  List.filter_sublist.map _

theorem pendingRefs_append (l m : List CompletionEntry) : pendingRefs (l ++ m) = pendingRefs l ++ pendingRefs m := by
  simp [pendingRefs]

/-- The end of a request takes its reference out of the PENDING ones. -/
theorem pendingRefs_finish (l : List CompletionEntry) (ref : Nat) (r : CompletionResult) :
    pendingRefs (l.map fun c => c.finish ref r) = (pendingRefs l).filter fun x => decide (x ≠ ref) := by
  induction l with
  | nil => rfl
  | cons c rest ih =>
    simp only [pendingRefs, List.map_cons, List.filter_cons, CompletionEntry.finish_pending_iff, decide_eq_true_eq] at ih ⊢
    by_cases hp : c.state = .pending
    · by_cases hr : c.ref = ref <;> simp [hp, hr, ih]
    · simp [hp, ih]

section
variable {s : State} {n : PortId}

theorem State.Tied.nodup (h : s.Tied) (hr : s.RefsFresh) (n : PortId) : ((s.queues.get n).map (·.ref)).Nodup := by
  rw [h n]
  exact (hr n).1.sublist (pendingRefs_sublist _)

/-- A reference names one entry of a queue. -/
theorem State.Tied.eq_of_ref (h : s.Tied) (hr : s.RefsFresh) {e x : QueueEntry} (he : e ∈ s.queues.get n)
    (hx : x ∈ s.queues.get n) (heq : x.ref = e.ref) : x = e :=
  List.inj_on_of_nodup_map (h.nodup hr n) hx he heq

/-- The completion entry of a queued request is PENDING (R56). -/
theorem State.Tied.pending_of_ref (h : s.Tied) (hr : s.RefsFresh) {e : QueueEntry} (he : e ∈ s.queues.get n)
    {c : CompletionEntry} (hc : c ∈ (s.ports.get n).completions) (heq : c.ref = e.ref) : c.state = .pending := by
  have hmem : e.ref ∈ pendingRefs (s.ports.get n).completions := by
    rw [← h n]
    exact List.mem_map_of_mem he
  obtain ⟨d, hd, hpending, hdref⟩ := mem_pendingRefs.mp hmem
  have hcd : c = d := List.inj_on_of_nodup_map (hr n).1 hc hd (heq.trans hdref.symm)
  rw [hcd, hpending]

theorem State.Tied.ref_lt (h : s.Tied) (hr : s.RefsFresh) {e : QueueEntry} (he : e ∈ s.queues.get n) : e.ref < s.nextRef := by
  have hmem : e.ref ∈ pendingRefs (s.ports.get n).completions := by
    rw [← h n]
    exact List.mem_map_of_mem he
  obtain ⟨d, hd, -, hdref⟩ := mem_pendingRefs.mp hmem
  rw [← hdref]
  exact (hr n).2 d hd

end

/-! ### Records (R182) -/

/-- The fault queue after a run of records: as many as there is room for, and the overflow flag for the rest. -/
theorem LinkController.foldl_report (records : List FaultRecord) (l : LinkController) :
    records.foldl LinkController.report l = { l with
      faults := l.faults ++ records.take (16 - l.faults.length)
      faultOverflow := l.faultOverflow || decide (records ≠ [] ∧ 16 < l.faults.length + records.length) } := by
  induction records generalizing l with
  | nil => simp
  | cons r rest ih =>
    rw [List.foldl_cons, ih]
    by_cases hroom : l.faults.length < Config.faultCapacity
    · have h16 : l.faults.length < 16 := hroom
      obtain ⟨k, hk⟩ : ∃ k, 16 - l.faults.length = k + 1 := ⟨15 - l.faults.length, by omega⟩
      have hk' : 16 - (l.faults.length + 1) = k := by omega
      have hflag : (rest ≠ [] ∧ 16 < l.faults.length + 1 + rest.length) ↔ 16 < l.faults.length + (rest.length + 1) := by
        cases rest
        · simp only [List.length_nil]; omega
        · simp only [List.length_cons]; constructor <;> simp <;> omega
      rw [LinkController.report_of_room r hroom]
      simp [hk, hk', hflag]
    · have h16 : 16 ≤ l.faults.length := Nat.not_lt.mp hroom
      have hk : 16 - l.faults.length = 0 := by omega
      rw [LinkController.report_of_full r h16]
      simp [hk]
      omega

/-! ### A run of expiries (R66) -/

/-- The entries of a port that are due to expire, oldest first. -/
def State.dues (s : State) (n : PortId) : List QueueEntry := (s.queues.get n).filter QueueEntry.expiryDue

/-- The TIMEOUT record of an entry (R66, R17). -/
def State.timeoutRecord (s : State) (n : PortId) (e : QueueEntry) : FaultRecord :=
  ⟨.timeout, some n, s.tagOf n e.ref, some e.address, some e.bank, none, s.scheduler.cycleCount, 0⟩

/-- A completion entry after the expiries of some requests: DONE TIMEOUT without data if its request is one of them (R66). -/
def CompletionEntry.afterExpiry (c : CompletionEntry) (gone : List QueueEntry) : CompletionEntry :=
  if gone.any (fun e => decide (e.ref = c.ref)) then { c with state := .done ⟨.timeout, [], false⟩ } else c

theorem CompletionEntry.afterExpiry_nil (c : CompletionEntry) : c.afterExpiry [] = c := rfl

theorem CompletionEntry.afterExpiry_ref (c : CompletionEntry) (gone : List QueueEntry) : (c.afterExpiry gone).ref = c.ref := by
  unfold CompletionEntry.afterExpiry
  split <;> rfl

theorem CompletionEntry.afterExpiry_tag (c : CompletionEntry) (gone : List QueueEntry) : (c.afterExpiry gone).tag = c.tag := by
  unfold CompletionEntry.afterExpiry
  split <;> rfl

/-- One more expiry, of a request that is still PENDING. -/
theorem CompletionEntry.afterExpiry_append {c : CompletionEntry} {gone : List QueueEntry} {e : QueueEntry}
    (hpending : c.ref = e.ref → c.state = .pending) (hfresh : ∀ x ∈ gone, x.ref ≠ e.ref) :
    (c.afterExpiry gone).finish e.ref (bareResult .timeout) = c.afterExpiry (gone ++ [e]) := by
  unfold CompletionEntry.afterExpiry
  by_cases hc : c.ref = e.ref
  · have hno : gone.any (fun x => decide (x.ref = c.ref)) = false := by
      rw [List.any_eq_false]
      intro x hx
      simpa [hc] using hfresh x hx
    rw [List.any_append, hno, List.any_cons, decide_eq_true hc.symm]
    simp [CompletionEntry.finish, hc, hpending hc, bareResult]
  · rw [List.any_append, List.any_cons, List.any_nil, decide_eq_false (Ne.symm hc), Bool.or_false, Bool.or_false]
    split <;> simp [CompletionEntry.finish, hc]

/-- State `t` is `s` after the expiries of the entries `gone`, with their records in some order. -/
structure ExpiredTo (s t : State) (gone : PortId → List QueueEntry) (records : List FaultRecord) : Prop where
  frame   : TrafficFrame s t
  oldest  : ∀ n, ∃ k, gone n = (s.dues n).take k
  queue   : ∀ n, t.queues.get n = (s.queues.get n).filter fun e => !(gone n).contains e
  port    : ∀ n, t.ports.get n = { s.ports.get n with
    completions := (s.ports.get n).completions.map fun c => c.afterExpiry (gone n) }
  link    : t.link = records.foldl LinkController.report s.link
  made    : ∀ n, records.filter (fun r => decide (r.port = some n)) = (gone n).map (s.timeoutRecord n)
  named   : ∀ r ∈ records, r.port ≠ none

theorem ExpiredTo.refl (s : State) : ExpiredTo s s (fun _ => []) [] := by
  refine ⟨.refl s, fun n => ⟨0, rfl⟩, fun n => ?_, fun n => ?_, rfl, fun n => rfl, fun r hr => by cases hr⟩
  · simp
  · simp [CompletionEntry.afterExpiry_nil]

section
variable {s t : State} {gone : PortId → List QueueEntry} {records : List FaultRecord} {n : PortId}

theorem ExpiredTo.gone_subset (h : ExpiredTo s t gone records) {e : QueueEntry} (he : e ∈ gone n) : e ∈ s.dues n := by
  obtain ⟨k, hk⟩ := h.oldest n
  rw [hk] at he
  exact List.mem_of_mem_take he

theorem ExpiredTo.tagOf (h : ExpiredTo s t gone records) (ref : Nat) : t.tagOf n ref = s.tagOf n ref := by
  rw [State.tagOf, State.tagOf, h.port n, List.find?_map, Option.map_map]
  simp only [Function.comp_def, CompletionEntry.afterExpiry_ref, CompletionEntry.afterExpiry_tag]

theorem filter_not_mem_take {α : Type} [DecidableEq α] {l : List α} (h : l.Nodup) (k : Nat) :
    (l.filter fun x => !(l.take k).contains x) = l.drop k := by
  have hsplit : (l.take k ++ l.drop k).Nodup := by rwa [List.take_append_drop]
  obtain ⟨-, -, hdisjoint⟩ := List.nodup_append'.mp hsplit
  conv_lhs => rw [← List.take_append_drop k l, List.filter_append, List.take_append_drop]
  rw [List.filter_eq_nil_iff.mpr (by simp), List.filter_eq_self.mpr, List.nil_append]
  intro x hx
  simpa using fun hmem => hdisjoint hmem hx

theorem State.dues_nodup (ht : s.Tied) (hr : s.RefsFresh) (n : PortId) : (s.dues n).Nodup :=
  (List.Nodup.of_map _ (ht.nodup hr n)).filter _

/-- The due entries that are left are those that have not gone. -/
theorem ExpiredTo.dues (h : ExpiredTo s t gone records) (n : PortId) :
    t.dues n = (s.dues n).filter fun e => !(gone n).contains e := by
  rw [State.dues, h.queue n, List.filter_comm]
  rfl

/-- The entry that expires next is the oldest of those that have not gone. -/
theorem ExpiredTo.oldestExpiring (h : ExpiredTo s t gone records) (ht : s.Tied) (hr : s.RefsFresh) :
    ∃ k, gone n = (s.dues n).take k ∧ t.oldestExpiring n = (s.dues n)[k]? := by
  obtain ⟨k, hk⟩ := h.oldest n
  refine ⟨k, hk, ?_⟩
  have hdues := h.dues n
  rw [hk, filter_not_mem_take (s.dues_nodup ht hr n)] at hdues
  rw [State.oldestExpiring, ← List.head?_filter, ← List.head?_drop, ← hdues]
  rfl

/-- One more expiry of port `n`. -/
theorem ExpiredTo.step (h : ExpiredTo s t gone records) (ht : s.Tied) (hr : s.RefsFresh) (n : PortId) :
    ∃ gone' records', ExpiredTo s (t.expireOldest n) gone' records' ∧ ∀ m, m ≠ n → gone' m = gone m := by
  obtain ⟨k, hk, holdest⟩ := h.oldestExpiring (n := n) ht hr
  cases he : (s.dues n)[k]? with
  | none =>
    rw [he] at holdest
    refine ⟨gone, records, ?_, fun _ _ => rfl⟩
    rwa [State.expireOldest, holdest]
  | some e =>
    rw [he] at holdest
    have hmem : e ∈ s.queues.get n := (List.mem_filter.mp (List.mem_of_getElem? he)).1
    have hstep : t.expireOldest n = t.failEntry n e .timeout .timeout 0 := by rw [State.expireOldest, holdest]
    have hnext : gone n ++ [e] = (s.dues n).take (k + 1) := by rw [hk, List.take_add_one, he]; rfl
    have hfresh : e ∉ gone n := by
      have hnodup : (gone n ++ [e]).Nodup := by rw [hnext]; exact (s.dues_nodup ht hr n).take
      exact fun hin => (List.nodup_append'.mp hnodup).2.2 hin List.mem_cons_self
    have hfreshRefs : ∀ x ∈ gone n, x.ref ≠ e.ref := fun x hx heq =>
      hfresh (ht.eq_of_ref hr hmem (List.mem_filter.mp (h.gone_subset hx)).1 heq ▸ hx)
    refine ⟨Function.update gone n (gone n ++ [e]), records ++ [s.timeoutRecord n e], ?_, fun m hm =>
      Function.update_of_ne hm _ _⟩
    rw [hstep]
    refine ⟨h.frame.trans (t.failEntry_frame _ _ _ _ _), fun m => ?_, fun m => ?_, fun m => ?_, ?_, fun m => ?_, ?_⟩
    · by_cases hm : m = n
      · subst hm
        exact ⟨k + 1, by rw [Function.update_self, hnext]⟩
      · rw [Function.update_of_ne hm]
        exact h.oldest m
    · by_cases hm : m = n
      · subst hm
        rw [State.failEntry_eq, PerPort.get_set_self, Function.update_self, h.queue, List.filter_filter]
        exact List.filter_congr fun x hx => by
          have hx : x.ref = e.ref ↔ x = e := ⟨ht.eq_of_ref hr hmem hx, fun heq => by rw [heq]⟩
          simp [QueueEntry.hasRef, hx, Bool.and_comm]
      · rw [State.failEntry_eq, PerPort.get_set_of_ne _ hm, Function.update_of_ne hm]
        exact h.queue m
    · by_cases hm : m = n
      · subst hm
        rw [State.failEntry_eq, PerPort.get_set_self, Function.update_self, h.port, List.map_map]
        have hcompletions : (s.ports.get m).completions.map
            ((fun c => c.finish e.ref (bareResult .timeout)) ∘ fun c => c.afterExpiry (gone m))
            = (s.ports.get m).completions.map fun c => c.afterExpiry (gone m ++ [e]) :=
          List.map_congr_left fun c hc => CompletionEntry.afterExpiry_append (ht.pending_of_ref hr hmem hc) hfreshRefs
        rw [hcompletions]
      · rw [State.failEntry_eq, PerPort.get_set_of_ne _ hm, Function.update_of_ne hm]
        exact h.port m
    · rw [State.failEntry_eq, List.foldl_append, ← h.link, h.tagOf, h.frame.scheduler]
      rfl
    · rw [List.filter_append, h.made]
      by_cases hm : m = n
      · subst hm
        simp [State.timeoutRecord]
      · simp [State.timeoutRecord, Function.update_of_ne hm, Ne.symm hm]
    · intro r hrecord
      rcases List.mem_append.mp hrecord with hold | hnew
      · exact h.named r hold
      · rw [List.mem_singleton.mp hnew]
        exact Option.some_ne_none n

/-- A run of expiries of some ports. -/
theorem ExpiredTo.run {turns : List PortId} (ht : s.Tied) (hr : s.RefsFresh) (seq : List PortId)
    (hseq : ∀ n ∈ seq, n ∈ turns) (h : ExpiredTo s t gone records) (hnone : ∀ m, m ∉ turns → gone m = []) :
    ∃ gone' records', ExpiredTo s (seq.foldl State.expireOldest t) gone' records' ∧ ∀ m, m ∉ turns → gone' m = [] := by
  induction seq generalizing t gone records with
  | nil => exact ⟨gone, records, h, hnone⟩
  | cons n rest ih =>
    obtain ⟨gone', records', h', hsame⟩ := h.step ht hr n
    have hn : n ∈ turns := hseq n List.mem_cons_self
    refine ih (fun m hm => hseq m (List.mem_cons_of_mem _ hm)) h' fun m hm => ?_
    rw [hsame m (fun heq => hm (heq ▸ hn)), hnone m hm]

/-- The expiries of a port, one after another. -/
theorem State.expirePort_eq_foldl (s : State) (n : PortId) :
    s.expirePort n = (List.replicate (s.dues n).length n).foldl State.expireOldest s := by
  have ignore (l : List QueueEntry) (t : State) :
      l.foldl (fun t _ => t.expireOldest n) t = (List.replicate l.length n).foldl State.expireOldest t := by
    induction l generalizing t with
    | nil => rfl
    | cons e rest ih => exact ih (t.expireOldest n)
  exact ignore (s.dues n) s

theorem State.exists_foldl_expirePort (turns : List PortId) (s : State) :
    ∃ seq : List PortId, (∀ n ∈ seq, n ∈ turns) ∧ turns.foldl State.expirePort s = seq.foldl State.expireOldest s := by
  induction turns generalizing s with
  | nil => exact ⟨[], fun n hn => hn, rfl⟩
  | cons m rest ih =>
    obtain ⟨seq, hseq, hfold⟩ := ih (s.expirePort m)
    refine ⟨List.replicate (s.dues m).length m ++ seq, fun n hn => ?_, ?_⟩
    · rcases List.mem_append.mp hn with h | h
      · rw [List.eq_of_mem_replicate h]
        exact List.mem_cons_self
      · exact List.mem_cons_of_mem _ (hseq n h)
    · rw [List.foldl_cons, hfold, List.foldl_append, ← State.expirePort_eq_foldl]

/-- The expiries of some ports are a run of expiries of these. -/
theorem State.exists_expirePorts_eq_foldl (s : State) (turns : List PortId) :
    ∃ seq : List PortId, (∀ n ∈ seq, n ∈ turns) ∧ s.expirePorts turns = seq.foldl State.expireOldest s := by
  obtain ⟨seq, hseq, hfold⟩ := State.exists_foldl_expirePort turns (turns.foldl State.expireOldest s)
  refine ⟨turns ++ seq, fun n hn => (List.mem_append.mp hn).elim id (hseq n), ?_⟩
  rw [State.expirePorts, hfold, List.foldl_append]

/-- Where none is left due, all that were due have gone. -/
theorem ExpiredTo.gone_eq (h : ExpiredTo s t gone records) (ht : s.Tied) (hr : s.RefsFresh) (hnone : t.NoneDue n) :
    gone n = s.dues n := by
  obtain ⟨k, hk⟩ := h.oldest n
  have hdues : t.dues n = [] := List.filter_eq_nil_iff.mpr fun e he => by simpa using hnone e he
  rw [h.dues n, hk, filter_not_mem_take (s.dues_nodup ht hr n), List.drop_eq_nil_iff] at hdues
  rw [hk, List.take_of_length_le hdues]

/-- What TIMEOUT leaves, with the records of the expiries in some order. -/
theorem State.expirePorts_expiredTo (ht : s.Tied) (hr : s.RefsFresh) (turns : List PortId) :
    ∃ records, ExpiredTo s (s.expirePorts turns) (fun n => if n ∈ turns then s.dues n else []) records := by
  obtain ⟨seq, hseq, hfold⟩ := s.exists_expirePorts_eq_foldl turns
  obtain ⟨gone, records, h, hnone⟩ := (ExpiredTo.refl s).run ht hr seq hseq fun _ _ => rfl
  rw [← hfold] at h
  have hgone : gone = fun n => if n ∈ turns then s.dues n else [] := by
    funext n
    split
    · exact h.gone_eq ht hr (s.expirePorts_noneDue n ‹_›)
    · exact hnone n ‹_›
  exact ⟨records, hgone ▸ h⟩

theorem TrafficFrame.eq_update (h : TrafficFrame s t) : t = { s with queues := t.queues, ports := t.ports, link := t.link } := by
  obtain ⟨hscheduler, hmirrors, hbanks, hcommit, hsync, hmemory, hnext, hpending⟩ := h
  rw [← hscheduler, ← hmirrors, ← hbanks, ← hcommit, ← hsync, ← hmemory, ← hnext, ← hpending]

end

end Sys2Proof.Machine

namespace Sys2Proof.Proofs

open Sys2Proof.Machine

/-- Settles O35: the expiries of the named ports as one run, each taking the oldest due entry that is left. -/
theorem timeoutExpiresEveryEntryDue : Obligations.TimeoutExpiresEveryEntryDue := by
  refine ⟨fun s t turns hr ht hexec => ?_, fun s turns => ⟨_, rfl, fun n hn => s.expirePorts_noneDue n hn⟩,
    fun s turns hnone => congrArg Host.Outcome.next (s.expirePorts_of_none_due turns hnone)⟩
  obtain rfl : s.expirePorts turns = t := by cases hexec; rfl
  obtain ⟨records, h⟩ := s.expirePorts_expiredTo ht hr turns
  have hqueues : (s.expirePorts turns).queues = s.queues.mapPort fun n q => q.filter fun e =>
      !(if n ∈ turns then s.dues n else []).contains e := PerPort.ext_get fun n => by rw [h.queue, PerPort.get_mapPort]
  have hports : (s.expirePorts turns).ports = s.ports.mapPort fun n p => { p with
      completions := p.completions.map fun c => c.afterExpiry (if n ∈ turns then s.dues n else []) } :=
    PerPort.ext_get fun n => by rw [h.port, PerPort.get_mapPort]
  refine ⟨records, h.made, h.named, h.frame.eq_update.trans ?_⟩
  rw [hqueues, hports, h.link, LinkController.foldl_report]
  rfl

end Sys2Proof.Proofs
end

section
/-! SUPPORT. A bank's decision as data: what it reads of the state, and what it then changes. The decisions of two banks read nothing that
the other changes, and change different parts, so they commute (R38, O22). -/

namespace Sys2Proof.Machine

/-! ### A decision as data -/

/-- What the decision of a bank changes: its sequencer, the entry that is granted, whether it reserves a place at the partner bank, whether it
marks its backlog head, and the OPEN pointer. -/
structure Decision where
  sequencer : Sequencer
  granted   : Option (PortId × Nat)
  reserves  : Bool
  marks     : Bool
  pointer   : Option PortId

/-- A decision that changes the sequencer alone. -/
def Decision.only (q : Sequencer) : Decision := ⟨q, none, false, false, none⟩

/-- The grant of an entry, in an OPEN slot with the pointer that follows it. -/
def State.grantDecision (s : State) (b : Bank) (n : PortId) (e : QueueEntry) (pointer : Option PortId) : Decision where
  sequencer := { s.banks.get b with
    operation := some (e.operation n (s.presentedOffset b e.address)), pair := e.pair n (s.presentedOffset b e.address) }
  granted := some (n, e.ref)
  reserves := e.work.writes && e.mirror
  marks := false
  pointer := pointer

/-- The service of the backlog head, if there is one. -/
def State.serveDecision (s : State) (b : Bank) : Decision :=
  match (s.mirrors.get b).head with
  | some x => ⟨{ s.banks.get b with operation := some (x.operation (s.presentedOffset b x.address)) }, none, false, true, none⟩
  | none => .only (s.banks.get b)

/-- The decision by the code of the row. -/
def State.codeDecision (s : State) (b : Bank) : Decision :=
  match s.currentCode b with
  | .port n => match s.eligibleCandidate b n with
    | some e => s.grantDecision b n e none
    | none => s.serveDecision b
  | .openSlot => match s.openWinner b with
    | some n => match s.eligibleCandidate b n with
      | some e => s.grantDecision b n e (some (n + 1))
      | none => s.serveDecision b
    | none => s.serveDecision b
  | .mirror => s.serveDecision b
  | .refresh => match s.commit.active.geometry.kind with
    | .dynamic => .only { s.banks.get b with operation := some .refresh }
    | .static => .only (s.banks.get b)
  | .idle => .only (s.banks.get b)

/-- The decision of a bank in the slot that starts (R20). -/
def State.decision (s : State) (b : Bank) : Decision :=
  if rowUsed s.commit.active.geometry.split b then
    match (s.banks.get b).pair with
    | some p =>
      let q := p.atSecond (s.presentedOffset b p.access.address)
      .only { s.banks.get b with operation := q.secondOperation, pair := some q }
    | none =>
      if s.scheduler.position = 0 ∧ (s.banks.get b).debt then
        .only { s.banks.get b with operation := some .catchUpRefresh, debt := false }
      else s.codeDecision b
  else .only (s.banks.get b)

/-- The backlog of bank `c` after a decision of bank `b`. -/
def Decision.backlog (d : Decision) (b c : Bank) (l : Backlog) : Backlog :=
  { l with
    entries := if d.marks = true ∧ c = b then markHead l.entries else l.entries
    reservations := if d.reserves = true ∧ c = partnerBank b then l.reservations + 1 else l.reservations }

/-- An entry of port `n` after a decision. -/
def Decision.entry (d : Decision) (n : PortId) (e : QueueEntry) : QueueEntry :=
  if d.granted = some (n, e.ref) then e.granted else e

/-- The state after a decision of bank `b`. -/
def State.take (s : State) (b : Bank) (d : Decision) : State := { s with
  scheduler := { s.scheduler with pointers := s.scheduler.pointers.set b (d.pointer.getD (s.scheduler.pointers.get b)) }
  queues := s.queues.mapPort fun n q => q.map (d.entry n)
  mirrors := s.mirrors.mapBank (d.backlog b)
  banks := s.banks.set b d.sequencer }

/-! ### Two decisions change different parts -/

theorem PerBank.set_comm {α : Type} (v : PerBank α) {b c : Bank} (h : b ≠ c) (x y : α) :
    (v.set b x).set c y = (v.set c y).set b x := by
  apply PerBank.ext_get
  intro a
  simp only [PerBank.get_set]
  split
  · rename_i hc
    rw [if_neg (hc ▸ h.symm)]
  · rfl

@[simp] theorem QueueEntry.granted_ref (e : QueueEntry) : e.granted.ref = e.ref := by
  rw [QueueEntry.granted_eq]
  split <;> rfl

theorem Decision.entry_comm (d d' : Decision) (n : PortId) (e : QueueEntry) :
    d.entry n (d'.entry n e) = d'.entry n (d.entry n e) := by
  unfold Decision.entry
  split <;> split <;> simp_all

theorem Decision.backlog_comm (d d' : Decision) {b c : Bank} (h : b ≠ c) (a : Bank) (l : Backlog) :
    d.backlog b a (d'.backlog c a l) = d'.backlog c a (d.backlog b a l) := by
  have hentries : (d.marks = true ∧ a = b) → ¬ (d'.marks = true ∧ a = c) := fun hb hc => h (hb.2.symm.trans hc.2)
  unfold Decision.backlog
  by_cases hb : d.marks = true ∧ a = b
  · simp only [if_pos hb, if_neg (hentries hb)]
    congr 1
    split <;> split <;> rfl
  · simp only [if_neg hb]
    congr 1
    split <;> split <;> rfl

theorem State.take_comm (s : State) {b c : Bank} (h : b ≠ c) (d d' : Decision) :
    (s.take b d).take c d' = (s.take c d').take b d := by
  unfold State.take
  simp only [PerBank.get_set_of_ne _ h, PerBank.get_set_of_ne _ h.symm, PerBank.set_comm _ h]
  congr 1
  · apply PerPort.ext_get
    intro n
    simp only [PerPort.get_mapPort, List.map_map]
    exact List.map_congr_left fun e _ => d'.entry_comm d n e
  · apply PerBank.ext_get
    intro a
    simp only [PerBank.get_mapBank]
    exact d'.backlog_comm d h.symm a _

/-! ### The decision of a bank is what it changes -/

section
variable {s : State} {b : Bank}

theorem Decision.backlog_of_nothing {d : Decision} (hr : d.reserves = false) (hm : d.marks = false) (b c : Bank) (l : Backlog) :
    d.backlog b c l = l := by
  simp [Decision.backlog, hr, hm]

theorem Decision.entry_of_nothing {d : Decision} (h : d.granted = none) (n : PortId) (e : QueueEntry) : d.entry n e = e := by
  simp [Decision.entry, h]

theorem PerPort.mapPort_id {α : Type} {f : PortId → α → α} {v : PerPort α} (h : ∀ n x, f n x = x) : v.mapPort f = v :=
  PerPort.ext_get fun n => by rw [PerPort.get_mapPort, h]

theorem PerBank.mapBank_id {α : Type} {f : Bank → α → α} {v : PerBank α} (h : ∀ b x, f b x = x) : v.mapBank f = v :=
  PerBank.ext_get fun b => by rw [PerBank.get_mapBank, h]

theorem State.take_only (q : Sequencer) : s.take b (.only q) = s.setSequencer b q := by
  have hqueues : s.queues.mapPort (fun n q' => q'.map ((Decision.only q).entry n)) = s.queues :=
    PerPort.mapPort_id fun n l => List.map_id'' (Decision.entry_of_nothing rfl n) l
  have hmirrors : s.mirrors.mapBank ((Decision.only q).backlog b) = s.mirrors :=
    PerBank.mapBank_id fun c l => Decision.backlog_of_nothing rfl rfl b c l
  have hpointers : s.scheduler.pointers.set b (s.scheduler.pointers.get b) = s.scheduler.pointers := PerBank.set_get_self _ b
  rw [State.take, hqueues, hmirrors]
  simp only [Decision.only, Option.getD_none, hpointers]
  rfl

theorem State.take_grant (n : PortId) (e : QueueEntry) (pointer : Option PortId) :
    s.take b (s.grantDecision b n e pointer) = (s.grant b n e).setScheduler
      { s.scheduler with pointers := s.scheduler.pointers.set b (pointer.getD (s.scheduler.pointers.get b)) } := by
  have hqueues : s.queues.mapPort (fun m q => q.map ((s.grantDecision b n e pointer).entry m))
      = s.queues.set n ((s.queues.get n).map fun x => if x.ref = e.ref then x.granted else x) := by
    apply PerPort.ext_get
    intro m
    rw [PerPort.get_mapPort, PerPort.get_set]
    split
    · rename_i hm
      subst hm
      exact List.map_congr_left fun x _ => by simp [Decision.entry, State.grantDecision, eq_comm]
    · rename_i hm
      exact List.map_id'' (fun x => by simp [Decision.entry, State.grantDecision, Ne.symm hm]) _
  have hmirrors : s.mirrors.mapBank ((s.grantDecision b n e pointer).backlog b) =
      if e.mirror = true ∧ e.work ≠ .read then
        s.mirrors.set (partnerBank b) { s.mirrors.get (partnerBank b) with
          reservations := (s.mirrors.get (partnerBank b)).reservations + 1 }
      else s.mirrors := by
    apply PerBank.ext_get
    intro c
    have hreserves : (s.grantDecision b n e pointer).reserves = true ↔ e.mirror = true ∧ e.work ≠ .read := by
      simp [State.grantDecision, Work.writes_iff, and_comm]
    have hmarks : (s.grantDecision b n e pointer).marks = false := rfl
    rw [PerBank.get_mapBank]
    simp only [Decision.backlog, hreserves, hmarks, Bool.false_eq_true, false_and, if_false]
    by_cases hr : e.mirror = true ∧ e.work ≠ .read
    · rw [if_pos hr, PerBank.get_set]
      by_cases hc : c = partnerBank b
      · subst hc
        simp [hr]
      · simp [hc]
    · simp [hr]
  rw [State.take, hqueues, hmirrors, State.grant_eq]
  rfl

theorem State.take_serve : s.take b (s.serveDecision b) = s.serveBacklog b := by
  cases hx : (s.mirrors.get b).head with
  | none =>
    have hd : s.serveDecision b = .only (s.banks.get b) := by simp only [State.serveDecision, hx]
    rw [hd, State.take_only, State.serveBacklog_of_none hx, State.setSequencer, PerBank.set_get_self]
  | some x =>
    have hd : s.serveDecision b =
        ⟨{ s.banks.get b with operation := some (x.operation (s.presentedOffset b x.address)) }, none, false, true, none⟩ := by
      simp only [State.serveDecision, hx]
    have hqueues : s.queues.mapPort (fun n q => q.map ((s.serveDecision b).entry n)) = s.queues :=
      PerPort.mapPort_id fun n l => List.map_id'' (Decision.entry_of_nothing (by rw [hd]) n) l
    have hmirrors : s.mirrors.mapBank ((s.serveDecision b).backlog b) =
        s.mirrors.set b { s.mirrors.get b with entries := markHead (s.mirrors.get b).entries } := by
      apply PerBank.ext_get
      intro c
      rw [PerBank.get_mapBank, hd, PerBank.get_set]
      by_cases hc : c = b
      · subst hc
        simp [Decision.backlog]
      · simp [Decision.backlog, hc]
    have hpointers : s.scheduler.pointers.set b (s.scheduler.pointers.get b) = s.scheduler.pointers :=
      PerBank.set_get_self _ b
    rw [State.take, hqueues, hmirrors, State.serveBacklog_of_head hx, hd]
    simp only [Option.getD_none, hpointers]
    rfl

theorem State.take_grantPort (n : PortId) (e : QueueEntry) : s.take b (s.grantDecision b n e none) = s.grant b n e := by
  rw [State.take_grant, Option.getD_none, PerBank.set_get_self, State.grant_eq]
  rfl

theorem State.take_grantOpen (n : PortId) (e : QueueEntry) :
    s.take b (s.grantDecision b n e (some (n + 1))) = (s.grant b n e).movePointer b n := by
  rw [State.take_grant, Option.getD_some, State.grant_eq]
  rfl

theorem State.take_nothing : s.take b (.only (s.banks.get b)) = s := by
  rw [State.take_only, State.setSequencer, PerBank.set_get_self]

theorem State.codeSlot_eq_take : s.codeSlot b = s.take b (s.codeDecision b) := by
  unfold State.codeSlot State.codeDecision
  cases s.currentCode b with
  | port n =>
    cases hc : s.eligibleCandidate b n <;> simp only [State.portSlot, hc, State.take_serve, State.take_grantPort]
  | openSlot =>
    cases hw : s.openWinner b with
    | none => simp only [State.openSlot, hw, State.take_serve]
    | some n =>
      cases hc : s.eligibleCandidate b n <;> simp only [State.openSlot, hw, hc, State.take_serve, State.take_grantOpen]
  | mirror => exact State.take_serve.symm
  | refresh =>
    cases hk : s.commit.active.geometry.kind with
    | dynamic => simp only [State.refreshSlot, hk, State.take_only]; rfl
    | static => simp only [State.refreshSlot, hk]; exact State.take_nothing.symm
  | idle => exact State.take_nothing.symm

theorem State.decideBank_eq_take (s : State) (b : Bank) : s.decideBank b = s.take b (s.decision b) := by
  cases used : rowUsed s.commit.active.geometry.split b with
  | false =>
    rw [State.decideBank_of_unused used]
    simp only [State.decision, used, Bool.false_eq_true, if_false, State.take_nothing]
  | true =>
    cases pair : (s.banks.get b).pair with
    | some p =>
      rw [State.decideBank_of_pair used pair]
      simp only [State.decision, used, if_true, pair, State.take_only]
      rfl
    | none =>
      by_cases hd : s.scheduler.position = 0 ∧ (s.banks.get b).debt = true
      · rw [State.decideBank_of_debt used pair hd]
        simp only [State.decision, used, if_true, pair, hd, and_self, State.take_only, State.catchUp]
      · rw [State.decideBank_of_code used pair hd, State.codeSlot_eq_take]
        simp only [State.decision, used, if_true, pair, hd, if_false]

/-! ### What a decision reads (R38) -/

/-- Two states between which bank `b` sees no difference that its decision depends on. -/
structure State.SeenAlike (s t : State) (b : Bank) : Prop where
  commit     : t.commit = s.commit
  position   : t.scheduler.position = s.scheduler.position
  sequencer  : t.banks.get b = s.banks.get b
  pointer    : t.scheduler.pointers.get b = s.scheduler.pointers.get b
  head       : (t.mirrors.get b).head = (s.mirrors.get b).head
  room       : (t.mirrors.get (partnerBank b)).hasRoom = (s.mirrors.get (partnerBank b)).hasRoom
  candidate  : ∀ n, t.candidate n b = s.candidate n b

theorem State.SeenAlike.eligibleCandidate {t : State} (h : s.SeenAlike t b) (n : PortId) :
    t.eligibleCandidate b n = s.eligibleCandidate b n := by
  have heligible : t.eligible b n = s.eligible b n := by
    funext e
    have hslot : t.atomicSlot b n e.work = s.atomicSlot b n e.work := by
      cases e.work with
      | read => rfl
      | write => rfl
      | atomic kind operand =>
        rw [State.atomicSlot_of_atomic, State.atomicSlot_of_atomic, State.activeRow, State.slots, h.commit, h.position]
        rfl
    rw [State.eligible, State.eligible, hslot, State.mirrorRoom, State.mirrorRoom, h.room]
  rw [State.eligibleCandidate, State.eligibleCandidate, h.candidate, heligible]

theorem State.SeenAlike.decision {t : State} (h : s.SeenAlike t b) : t.decision b = s.decision b := by
  have hcode : t.currentCode b = s.currentCode b := by rw [State.currentCode, State.activeRow, h.commit, h.position]; rfl
  have hwinner : t.openWinner b = s.openWinner b := by
    simp only [State.openWinner, h.pointer, h.eligibleCandidate]
  have hserve : t.serveDecision b = s.serveDecision b := by
    simp only [State.serveDecision, h.head, h.sequencer, State.presentedOffset, h.commit]
  simp only [State.decision, State.codeDecision, h.commit, h.position, h.sequencer, hcode, hwinner, hserve,
    h.eligibleCandidate, State.grantDecision, State.presentedOffset]

theorem State.serveDecision_granted : (s.serveDecision b).granted = none := by
  unfold State.serveDecision
  split <;> rfl

/-- The entry that a decision grants is the candidate of its port for the bank (R28). -/
theorem State.decision_granted {n : PortId} {ref : Nat} (h : (s.decision b).granted = some (n, ref)) :
    ∃ e, s.candidate n b = some e ∧ e.ref = ref := by
  have grant {m : PortId} {e : QueueEntry} {pointer : Option PortId} (he : s.eligibleCandidate b m = some e)
      (hg : (s.grantDecision b m e pointer).granted = some (n, ref)) : ∃ e, s.candidate n b = some e ∧ e.ref = ref := by
    cases hg
    exact ⟨e, (State.eligibleCandidate_eq_some_iff.mp he).1, rfl⟩
  have serve (hg : (s.serveDecision b).granted = some (n, ref)) : ∃ e, s.candidate n b = some e ∧ e.ref = ref := by
    rw [State.serveDecision_granted] at hg
    cases hg
  have only {q : Sequencer} (hg : (Decision.only q).granted = some (n, ref)) :
      ∃ e, s.candidate n b = some e ∧ e.ref = ref := by cases hg
  unfold State.decision at h
  split at h
  · split at h
    · exact only h
    · split at h
      · exact only h
      · unfold State.codeDecision at h
        split at h
        · split at h
          · exact grant ‹_› h
          · exact serve h
        · split at h
          · split at h
            · exact grant ‹_› h
            · exact serve h
          · exact serve h
        · exact serve h
        · split at h <;> exact only h
        · exact only h
  · exact only h

theorem length_markHead (l : List BacklogEntry) : (markHead l).length = l.length := by
  induction l with
  | nil => rfl
  | cons x rest ih =>
    rw [markHead]
    split <;> simp [ih]

theorem partnerBank_injective {b c : Bank} (h : partnerBank b = partnerBank c) : b = c := by
  cases b <;> cases c <;> simp_all [partnerBank]

/-- A granted entry is no candidate any more. -/
theorem QueueEntry.granted_not_waiting (e : QueueEntry) : e.granted.state ≠ .waiting := by
  rw [QueueEntry.granted_eq]
  split <;> simp

/-- A search finds the same after a change of entries that it passes over. -/
theorem find?_map_of_kept {α : Type} {p : α → Bool} {f : α → α} {l : List α} (hp : ∀ x ∈ l, p (f x) = p x)
    (hf : ∀ x ∈ l, p x = true → f x = x) : (l.map f).find? p = l.find? p := by
  induction l with
  | nil => rfl
  | cons x rest ih =>
    rw [List.forall_mem_cons] at hp hf
    rw [List.map_cons, List.find?_cons, List.find?_cons, hp.1, ih hp.2 hf.2]
    split
    · rw [hf.1 ‹_›]
    · rfl

/-- What a decision of another bank changes, bank `b` does not see (R38). -/
theorem State.seenAlike_take {c : Bank} (hne : b ≠ c) (d : Decision)
    (hgranted : ∀ n, ∀ x ∈ s.queues.get n, d.granted = some (n, x.ref) → x.bank = c) : s.SeenAlike (s.take c d) b where
  commit := rfl
  position := rfl
  sequencer := PerBank.get_set_of_ne _ hne _
  pointer := PerBank.get_set_of_ne _ hne _
  head := by
    have hentries : (d.backlog c b (s.mirrors.get b)).entries = (s.mirrors.get b).entries := if_neg fun h => hne h.2
    rw [State.take, PerBank.get_mapBank, Backlog.head, Backlog.head, hentries]
  room := by
    have hreserved : (d.backlog c (partnerBank b) (s.mirrors.get (partnerBank b))).reservations
        = (s.mirrors.get (partnerBank b)).reservations := if_neg fun h => hne (partnerBank_injective h.2)
    have hentries : (d.backlog c (partnerBank b) (s.mirrors.get (partnerBank b))).entries.length
        = (s.mirrors.get (partnerBank b)).entries.length := by
      unfold Decision.backlog
      dsimp only
      split
      · exact length_markHead _
      · rfl
    rw [State.take, PerBank.get_mapBank, Backlog.hasRoom, Backlog.hasRoom, Backlog.occupancy, Backlog.occupancy, hreserved,
      hentries]
    rfl
  candidate n := by
    rw [State.candidate, State.take, PerPort.get_mapPort]
    refine find?_map_of_kept (fun x hx => ?_) fun x hx hp => ?_
    · unfold Decision.entry
      split
      · have hbank : x.bank ≠ b := (hgranted n x hx ‹_›).symm ▸ hne.symm
        simp [x.granted_not_waiting, hbank]
      · rfl
    · have hbank : x.bank = b := (by simpa using hp : x.state = .waiting ∧ x.bank = b).2
      exact if_neg fun hg => hne (hbank.symm.trans (hgranted n x hx hg))

end

end Sys2Proof.Machine

namespace Sys2Proof.Proofs

open Sys2Proof.Machine

/-- Settles O22: each decision is the same data in either order, and the two change different parts. -/
theorem bankDecisionsCommute : Obligations.BankDecisionsCommute := by
  intro s b c ht hr hne
  have alike {x y : Bank} (hxy : x ≠ y) : (s.take y (s.decision y)).decision x = s.decision x := by
    refine (State.seenAlike_take hxy _ fun n e he hg => ?_).decision
    obtain ⟨e', hc, href⟩ := State.decision_granted hg
    rw [← ht.eq_of_ref hr he (State.candidate_mem hc) href]
    exact State.candidate_bank hc
  calc (s.decideBank b).decideBank c
      = (s.take b (s.decision b)).take c (s.decision c) := by
        rw [State.decideBank_eq_take, State.decideBank_eq_take s, alike hne.symm]
    _ = (s.take c (s.decision c)).take b (s.decision b) := s.take_comm hne _ _
    _ = (s.decideBank c).decideBank b := by
        rw [State.decideBank_eq_take s c, State.decideBank_eq_take _ b, alike hne]

end Sys2Proof.Proofs
end

section
/-! SUPPORT. The invariant in five parts, each about the blocks it speaks of, in a form that a proof can use: the lists of the ports, the places
of the backlogs, the ties between requests and what the banks perform, the controllers, and the grid. -/

namespace Sys2Proof.Machine

/-! ### What a bank performs (R32, R44, R70) -/

/-- The request that an operation performs for a port, with its work, if it is a READ or a WRITE. -/
def Operation.claim : Operation → Option (PortAccess × Work)
  | .portRead a => some (a, .read)
  | .portWrite a beats => some (a, .write beats)
  | .atomicRead _ | .atomicWrite _ _ | .secondaryWrite _ _ | .recoveryRead _ _ _ _ | .refresh | .catchUpRefresh => none

/-- A sequencer performs a request of the given work, whose entry is in the given state: its operation an IN-SLOT one, its pair a LINKED one. -/
def Sequencer.Claims (q : Sequencer) (a : PortAccess) (state : EntryState) (work : Work) : Prop :=
  (state = .inSlot ∧ ∃ o, q.operation = some o ∧ o.claim = some (a, work))
  ∨ (state = .linked ∧ ∃ p, q.pair = some p ∧ p.access = a ∧ .atomic p.kind p.operand = work)

theorem Sequencer.claims_read {q : Sequencer} {a : PortAccess} (h : q.operation = some (.portRead a)) :
    q.Claims a .inSlot .read := .inl ⟨rfl, _, h, rfl⟩

theorem Sequencer.claims_write {q : Sequencer} {a : PortAccess} {beats : List WriteBeat}
    (h : q.operation = some (.portWrite a beats)) : q.Claims a .inSlot (.write beats) := .inl ⟨rfl, _, h, rfl⟩

theorem Sequencer.claims_pair {q : Sequencer} {p : AtomicPair} (h : q.pair = some p) :
    q.Claims p.access .linked (.atomic p.kind p.operand) := .inr ⟨rfl, p, h, rfl, rfl⟩

/-- A bank without an operation and without a pair performs no request. -/
theorem Sequencer.not_claims {q : Sequencer} (ho : ∀ o, q.operation = some o → o.claim = none) (hp : q.pair = none)
    {a : PortAccess} {state : EntryState} {work : Work} : ¬ q.Claims a state work := by
  rintro (⟨-, o, h, hc⟩ | ⟨-, p, h, -⟩)
  · rw [ho o h] at hc
    cases hc
  · rw [hp] at h
    cases h

theorem State.grantTied_iff (s : State) (b : Bank) : s.grantTied b = true ↔
    ∀ a state work, (s.banks.get b).Claims a state work → s.Performs b a state work := by
  unfold State.grantTied
  rw [Bool.and_eq_true]
  constructor
  · rintro ⟨hop, hpair⟩ a state work (⟨rfl, o, ho, hc⟩ | ⟨rfl, p, hp, rfl, rfl⟩)
    · rw [ho] at hop
      cases o <;> simp only [Operation.claim, reduceCtorEq] at hc <;> cases hc <;> exact of_decide_eq_true hop
    · rw [hp] at hpair
      exact of_decide_eq_true hpair
  · intro h
    refine ⟨?_, ?_⟩
    · split
      · exact decide_eq_true (h _ _ _ (Sequencer.claims_read ‹_›))
      · exact decide_eq_true (h _ _ _ (Sequencer.claims_write ‹_›))
      all_goals rfl
    · split
      · exact decide_eq_true (h _ _ _ (Sequencer.claims_pair ‹_›))
      · rfl

theorem Sequencer.performs_iff (q : Sequencer) (n : PortId) (ref : Nat) (state : EntryState) :
    q.performs n ref state = true ↔
      (state = .inSlot ∨ state = .linked → ∃ a work, q.Claims a state work ∧ a.port = n ∧ a.ref = ref) := by
  cases state with
  | waiting | recovering => simp [Sequencer.performs]
  | inSlot =>
    simp only [Sequencer.performs, true_or, forall_const]
    constructor
    · intro h
      split at h <;> simp only [Bool.and_eq_true, decide_eq_true_eq, Bool.false_eq_true] at h
      · exact ⟨_, _, Sequencer.claims_read ‹_›, h⟩
      · exact ⟨_, _, Sequencer.claims_write ‹_›, h⟩
    · rintro ⟨a, work, ⟨-, o, ho, hc⟩ | ⟨hstate, -⟩, hport, href⟩
      · rw [ho]
        cases o <;> simp only [Operation.claim, reduceCtorEq] at hc <;> cases hc <;> simp [hport, href]
      · cases hstate
  | linked =>
    simp only [Sequencer.performs, or_true, forall_const]
    constructor
    · intro h
      split at h <;> simp only [Bool.and_eq_true, decide_eq_true_eq, Bool.false_eq_true] at h
      exact ⟨_, _, Sequencer.claims_pair ‹_›, h⟩
    · rintro ⟨a, work, ⟨hstate, -⟩ | ⟨-, p, hp, rfl, -⟩, hport, href⟩
      · cases hstate
      · simp [hp, hport, href]

/-! ### Recoveries and marks (R33, R63, R74) -/

/-- A RECOVERY-READ of port `n` in the backlog of bank `b` is tied to the queue entry it recovers, while that exists; only one being performed
can have lost it. -/
structure State.Recovers (s : State) (b : Bank) (x : BacklogEntry) (n : PortId) (ref : Nat) : Prop where
  fresh  : ref < s.nextRef
  entry  : ∀ e ∈ s.queues.get n, e.ref = ref → e.state = .recovering ∧ e.bank = partnerBank b
    ∧ x.address = partnerAddress s.commit.active.geometry e.address ∧ x.length = e.length
  queued : x.performing = false → ∃ e ∈ s.queues.get n, e.ref = ref

theorem State.recoveryTied_iff (s : State) (b : Bank) (x : BacklogEntry) : s.recoveryTied b x = true ↔
    ∀ n ref, x.work = .recoveryRead n ref → s.Recovers b x n ref := by
  unfold State.recoveryTied
  cases hw : x.work with
  | secondaryWrite beats => simp
  | recoveryRead n ref =>
    simp only [Bool.and_eq_true, Bool.or_eq_true, decide_eq_true_eq]
    constructor
    · rintro ⟨⟨hfresh, hentry⟩, hqueued⟩ m r h
      cases h
      exact ⟨hfresh, hentry, fun hx => hqueued.resolve_left (by simp [hx])⟩
    · intro h
      obtain ⟨hfresh, hentry, hqueued⟩ := h n ref rfl
      refine ⟨⟨hfresh, hentry⟩, ?_⟩
      cases hx : x.performing with
      | true => exact .inl rfl
      | false => exact .inr (hqueued hx)

/-- How many RECOVERY-READs a backlog holds for a request. -/
def Backlog.recoveryCount (l : Backlog) (n : PortId) (ref : Nat) : Nat :=
  (l.entries.filter fun x => decide (x.work = .recoveryRead n ref)).length

/-- The entries of a backlog that are being performed. -/
def Backlog.performed (l : Backlog) : List BacklogEntry := l.entries.filter fun x => x.performing

/-- Whether an operation performs a backlog entry. -/
def Operation.ofBacklog : Operation → Bool
  | .secondaryWrite _ _ | .recoveryRead _ _ _ _ => true
  | .portRead _ | .portWrite _ _ | .atomicRead _ | .atomicWrite _ _ | .refresh | .catchUpRefresh => false

/-- The entry of a backlog that is marked is the one whose operation is in progress on its bank. -/
inductive State.Marked (s : State) (b : Bank) : Prop
  | none (performed : (s.mirrors.get b).performed = []) (operation : ∀ o, (s.banks.get b).operation = some o → o.ofBacklog = false)
  | one (x : BacklogEntry) (performed : (s.mirrors.get b).performed = [x])
      (operation : (s.banks.get b).operation = some (x.operation (s.presentedOffset b x.address)))

theorem State.performingTied_iff (s : State) (b : Bank) : s.performingTied b = true ↔ s.Marked b := by
  have hperformed : (s.mirrors.get b).entries.filter (fun x => x.performing) = (s.mirrors.get b).performed := rfl
  unfold State.performingTied
  dsimp only
  rw [hperformed]
  constructor
  · intro h
    split at h
    · rename_i offset beats ho
      obtain ⟨x, hx, hwork⟩ := List.map_eq_singleton_iff.mp (of_decide_eq_true h)
      cases hwx : x.work <;> simp [hwx] at hwork
      exact .one x hx (by simp [BacklogEntry.operation, hwx, ho, hwork])
    · rename_i offset length n ref ho
      obtain ⟨x, hx, hwork⟩ := List.map_eq_singleton_iff.mp (of_decide_eq_true h)
      cases hwx : x.work <;> simp [hwx] at hwork
      exact .one x hx (by simp [BacklogEntry.operation, hwx, ho, hwork])
    all_goals
      refine .none (List.isEmpty_iff.mp h) fun o hop => ?_
      rename_i ho
      rw [ho] at hop
      cases hop <;> rfl
  · rintro (⟨hp, ho⟩ | ⟨x, hp, ho⟩)
    · split
      · exact absurd (ho _ ‹_›) (by simp [Operation.ofBacklog])
      · exact absurd (ho _ ‹_›) (by simp [Operation.ofBacklog])
      all_goals simp [hp]
    · cases hw : x.work <;> simp [ho, BacklogEntry.operation, hw, hp]

/-! ### The five parts of the invariant -/

/-- The lists of the ports (R56, R57, R157, R158, R170). -/
structure State.ListsHold (s : State) : Prop where
  tied   : s.Tied
  refs   : s.RefsFresh
  length : ∀ n : PortId, (s.ports.get n).completions.length ≤ Config.completionCapacity
  ages   : ∀ n : PortId, ∀ e ∈ s.queues.get n, e.age ≤ 255
  resets : s.ResetPortsEmpty

/-- The places of the backlogs (R73, R75, R76, R92). -/
structure State.PlacesHold (s : State) : Prop where
  room         : ∀ b : Bank, (s.mirrors.get b).occupancy + (s.mirrors.get b).freed ≤ Config.backlogCapacity
  reservations : ∀ b : Bank, (s.mirrors.get (partnerBank b)).reservations = (s.banks.get b).owes

/-- What the banks perform, and for whom (R26, R32, R44, R63, R74). -/
structure State.WorkHolds (s : State) : Prop where
  pairs      : ∀ b : Bank, (s.banks.get b).pairHolds = true
  claims     : ∀ (b : Bank) a state work, (s.banks.get b).Claims a state work → s.Performs b a state work
  granted    : ∀ n : PortId, ∀ e ∈ s.queues.get n, e.state = .inSlot ∨ e.state = .linked →
    ∃ a work, (s.banks.get e.bank).Claims a e.state work ∧ a.port = n ∧ a.ref = e.ref
  recovers   : ∀ b : Bank, ∀ x ∈ (s.mirrors.get b).entries, ∀ n ref, x.work = .recoveryRead n ref → s.Recovers b x n ref
  recovering : ∀ n : PortId, ∀ e ∈ s.queues.get n, e.state = .recovering →
    e.work = .read ∧ e.mirror = true ∧ (s.mirrors.get (partnerBank e.bank)).recoveryCount n e.ref = 1
  marked     : ∀ b : Bank, s.Marked b

/-- The commit controller and the sync unit (R125, R127 to R132, R142, R143). -/
structure State.ControlHolds (s : State) : Prop where
  plans    : s.PlansValid
  position : s.PositionInCycle
  drain    : s.commit.drainCount ≤ 4096
  draining : s.commit.state = .draining → s.commit.drainCount ≤ s.commit.active.drainLimit
  slips    : s.sync.slipCount ≤ 255
  misses   : s.sync.missCount ≤ 2
  sync     : s.SyncConsistent

/-- The invariant but for what holds between two slots and in reset. -/
structure State.Holds (s : State) : Prop where
  lists    : s.ListsHold
  places   : s.PlacesHold
  work     : s.WorkHolds
  control  : s.ControlHolds
  grid     : s.PairsOnGrid
  faults   : s.link.faults.length ≤ Config.faultCapacity
  captures : s.sync.captures.length ≤ Config.captureCapacity
  memory   : s.MemoryCanonical

theorem State.ListsHold.queue_length {s : State} (h : s.ListsHold) (n : PortId) :
    (s.queues.get n).length ≤ (s.ports.get n).completions.length := by
  rw [← List.length_map, h.tied n, ← List.length_map (f := fun c : CompletionEntry => c.ref)]
  exact (pendingRefs_sublist _).length_le

theorem State.inv_iff (s : State) : s.Inv ↔ s.Holds ∧ s.IdleBetweenSlots ∧ s.QuietInReset := by
  constructor
  · intro h
    obtain ⟨hlists, hplaces, hfaults, hcaptures⟩ := h.capacity
    obtain ⟨hages, hdrain, hdraining, hslips, hmisses⟩ := h.counters
    refine ⟨⟨⟨h.tied, h.refs, fun n => (hlists n).1, hages, h.resetPorts⟩,
      ⟨fun b => hplaces b (mem_allBanks b), fun b => h.reservations b (mem_allBanks b)⟩, ?_,
      ⟨h.plans, h.position, hdrain, hdraining, hslips, hmisses, h.sync⟩, h.grid, hfaults, hcaptures, h.memory⟩,
      h.idle, h.quiet⟩
    exact ⟨fun b => h.pairs b (mem_allBanks b), fun b => (s.grantTied_iff b).mp (h.grants.1 b (mem_allBanks b)),
      fun n e he => (Sequencer.performs_iff _ _ _ _).mp (h.grants.2 n e he),
      fun b x hx => (s.recoveryTied_iff b x).mp (h.recoveries.1 b (mem_allBanks b) x hx), h.recoveries.2,
      fun b => (s.performingTied_iff b).mp (h.marks b (mem_allBanks b))⟩
  · rintro ⟨⟨hl, hp, hw, hc, hgrid, hfaults, hcaptures, hmemory⟩, hidle, hquiet⟩
    exact {
      tied := hl.tied
      refs := hl.refs
      capacity := ⟨fun n => ⟨hl.length n, hl.queue_length n⟩, fun b _ => hp.room b, hfaults, hcaptures⟩
      reservations := fun b _ => hp.reservations b
      pairs := fun b _ => hw.pairs b
      idle := hidle
      plans := hc.plans
      position := hc.position
      counters := ⟨hl.ages, hc.drain, hc.draining, hc.slips, hc.misses⟩
      sync := hc.sync
      memory := hmemory
      quiet := hquiet
      grid := hgrid
      grants := ⟨fun b _ => (s.grantTied_iff b).mpr (hw.claims b),
        fun n e he => (Sequencer.performs_iff _ _ _ _).mpr (hw.granted n e he)⟩
      recoveries := ⟨fun b _ x hx => (s.recoveryTied_iff b x).mpr (hw.recovers b x hx), hw.recovering⟩
      marks := fun b _ => (s.performingTied_iff b).mpr (hw.marked b)
      resetPorts := hl.resets }

/-! ### What each part depends on -/

section
variable {s t : State}

theorem State.ListsHold.congr (h : s.ListsHold) (hq : t.queues = s.queues) (hp : t.ports = s.ports)
    (hn : t.nextRef = s.nextRef) : t.ListsHold := by
  obtain ⟨htied, hrefs, hlength, hages, hresets⟩ := h
  constructor
  · simpa only [State.Tied, hq, hp] using htied
  · simpa only [State.RefsFresh, hp, hn] using hrefs
  · simpa only [hp] using hlength
  · simpa only [hq] using hages
  · simpa only [State.ResetPortsEmpty, hq, hp] using hresets

theorem State.PlacesHold.congr (h : s.PlacesHold) (hm : t.mirrors = s.mirrors) (hb : t.banks = s.banks) : t.PlacesHold :=
  ⟨by simpa only [hm] using h.room, by simpa only [hm, hb] using h.reservations⟩

theorem State.ControlHolds.congr (h : s.ControlHolds) (hc : t.commit = s.commit) (hs : t.sync = s.sync)
    (ht : t.scheduler.timer = s.scheduler.timer) (hp : t.scheduler.position = s.scheduler.position) : t.ControlHolds := by
  obtain ⟨hplans, hposition, hdrain, hdraining, hslips, hmisses, hsync⟩ := h
  constructor
  · simpa only [State.PlansValid, hc] using hplans
  · simpa only [State.PositionInCycle, State.slots, hc, ht, hp] using hposition
  · simpa only [hc] using hdrain
  · simpa only [hc] using hdraining
  · simpa only [hs] using hslips
  · simpa only [hs] using hmisses
  · simpa only [State.SyncConsistent, hc, hs] using hsync

theorem State.PairsOnGrid.congr (h : s.PairsOnGrid) (hb : t.banks = s.banks) (hc : t.commit = s.commit)
    (ht : t.scheduler.timer = s.scheduler.timer) (hp : t.scheduler.position = s.scheduler.position) : t.PairsOnGrid :=
  fun b hb' => (State.pairOnGrid_congr (by rw [hb]) hc ht hp).trans (h b hb')

end

end Sys2Proof.Machine
end

section
/-! SUPPORT. When the ties between requests and what the banks perform are kept: by a change of the queues that leaves every task as it is, and by
a change at one bank. -/

namespace Sys2Proof.Machine

/-! ### A change of the queues -/

/-- Two queue entries that name the same task in the same state: they differ at most in age, expiry mark and atomic result. -/
structure QueueEntry.SameTask (e e₀ : QueueEntry) : Prop where
  ref     : e.ref = e₀.ref
  work    : e.work = e₀.work
  address : e.address = e₀.address
  length  : e.length = e₀.length
  bank    : e.bank = e₀.bank
  mirror  : e.mirror = e₀.mirror
  state   : e.state = e₀.state

theorem QueueEntry.SameTask.refl (e : QueueEntry) : e.SameTask e := ⟨rfl, rfl, rfl, rfl, rfl, rfl, rfl⟩

section
variable {s t : State}

theorem State.presentedOffset_congr (hg : t.commit.active.geometry = s.commit.active.geometry) (b : Bank) (address : Address) :
    t.presentedOffset b address = s.presentedOffset b address := by
  rw [State.presentedOffset, State.presentedOffset, hg]

/-- An access performs its request still when every entry of its reference is an old task. -/
theorem State.Performs.of_tasks {b : Bank} {a : PortAccess} {state : EntryState} {work : Work} (h : s.Performs b a state work)
    (hn : s.nextRef ≤ t.nextRef) (hg : t.commit.active.geometry = s.commit.active.geometry)
    (hq : ∀ e ∈ t.queues.get a.port, e.ref = a.ref → ∃ e₀ ∈ s.queues.get a.port, e.SameTask e₀) :
    t.Performs b a state work := by
  obtain ⟨hfresh, hoffset, hentry⟩ := h
  refine ⟨hfresh.trans_le hn, hoffset.trans (State.presentedOffset_congr hg b a.address).symm, fun e he href => ?_⟩
  obtain ⟨e₀, he₀, k⟩ := hq e he href
  obtain ⟨hstate, hwork, hbank, haddress, hlength, hmirror⟩ := hentry e₀ he₀ (k.ref.symm.trans href)
  exact ⟨k.state.trans hstate, k.work.trans hwork, k.bank.trans hbank, k.address.trans haddress, k.length.trans hlength,
    k.mirror.trans hmirror⟩

theorem State.Recovers.of_tasks {b : Bank} {x : BacklogEntry} {n : PortId} {ref : Nat} (h : s.Recovers b x n ref)
    (hn : s.nextRef ≤ t.nextRef) (hg : t.commit.active.geometry = s.commit.active.geometry)
    (hq : ∀ e ∈ t.queues.get n, e.ref = ref → ∃ e₀ ∈ s.queues.get n, e.SameTask e₀)
    (hqueued : x.performing = false → ∃ e ∈ t.queues.get n, e.ref = ref) : t.Recovers b x n ref := by
  refine ⟨h.fresh.trans_le hn, fun e he href => ?_, hqueued⟩
  obtain ⟨e₀, he₀, k⟩ := hq e he href
  obtain ⟨hstate, hbank, haddress, hlength⟩ := h.entry e₀ he₀ (k.ref.symm.trans href)
  exact ⟨k.state.trans hstate, k.bank.trans hbank, by rw [haddress, hg, k.address], hlength.trans k.length.symm⟩

theorem Sequencer.Claims.congr {q r : Sequencer} (ho : r.operation = q.operation) (hp : r.pair = q.pair) {a : PortAccess}
    {state : EntryState} {work : Work} : r.Claims a state work ↔ q.Claims a state work := by
  simp only [Sequencer.Claims, ho, hp]

theorem Sequencer.pairHolds_congr {q r : Sequencer} (ho : r.operation = q.operation) (hp : r.pair = q.pair) :
    r.pairHolds = q.pairHolds := by
  simp only [Sequencer.pairHolds, ho, hp]

theorem Sequencer.owes_congr {q r : Sequencer} (ho : r.operation = q.operation) (hp : r.pair = q.pair) : r.owes = q.owes := by
  simp only [Sequencer.owes, ho, hp]

theorem State.Marked.congr {b : Bank} (h : s.Marked b) (ho : (t.banks.get b).operation = (s.banks.get b).operation)
    (hp : (t.mirrors.get b).performed = (s.mirrors.get b).performed)
    (hg : t.commit.active.geometry = s.commit.active.geometry) : t.Marked b := by
  rcases h with ⟨hperformed, hop⟩ | ⟨x, hperformed, hop⟩
  · exact .none (hp.trans hperformed) (by rwa [ho])
  · exact .one x (hp.trans hperformed) (by rw [ho, hop, State.presentedOffset_congr hg])

/-- The queues keep or lose tasks, or take new ones, and the backlogs lose at most entries that are not being performed, together with their
tasks. -/
theorem State.WorkHolds.of_lists (h : s.WorkHolds) (keep : BacklogEntry → Bool)
    (ho : ∀ b, (t.banks.get b).operation = (s.banks.get b).operation) (hp : ∀ b, (t.banks.get b).pair = (s.banks.get b).pair)
    (hg : t.commit.active.geometry = s.commit.active.geometry) (hn : s.nextRef ≤ t.nextRef)
    (hm : ∀ b, (t.mirrors.get b).entries = (s.mirrors.get b).entries.filter keep)
    (hq : ∀ n, ∀ e ∈ t.queues.get n, (s.nextRef ≤ e.ref ∧ e.state = .waiting) ∨ ∃ e₀ ∈ s.queues.get n, e.SameTask e₀)
    (hperforming : ∀ x, x.performing = true → keep x = true)
    (hqueued : ∀ b, ∀ x ∈ (s.mirrors.get b).entries, keep x = true → x.performing = false → ∀ n ref,
      x.work = .recoveryRead n ref → (∃ e ∈ s.queues.get n, e.ref = ref) → ∃ e ∈ t.queues.get n, e.ref = ref)
    (hrecovering : ∀ n, ∀ e ∈ t.queues.get n, e.state = .recovering → ∀ x, x.work = .recoveryRead n e.ref → keep x = true) :
    t.WorkHolds := by
  have hold {n : PortId} {ref : Nat} (hlt : ref < s.nextRef) :
      ∀ e ∈ t.queues.get n, e.ref = ref → ∃ e₀ ∈ s.queues.get n, e.SameTask e₀ := fun e he href =>
    (hq n e he).resolve_left fun hnew => absurd (href ▸ hnew.1) (Nat.not_le.mpr hlt)
  have htask {n : PortId} {e : QueueEntry} (he : e ∈ t.queues.get n) (hs : e.state ≠ .waiting) :
      ∃ e₀ ∈ s.queues.get n, e.SameTask e₀ := (hq n e he).resolve_left fun hnew => hs hnew.2
  constructor
  · exact fun b => (Sequencer.pairHolds_congr (ho b) (hp b)).trans (h.pairs b)
  · intro b a state work hclaim
    have hs := h.claims b a state work ((Sequencer.Claims.congr (ho b) (hp b)).mp hclaim)
    exact hs.of_tasks hn hg (hold hs.1)
  · intro n e he hstate
    obtain ⟨e₀, he₀, k⟩ := htask he (by rcases hstate with h | h <;> simp [h])
    obtain ⟨a, work, hclaim, hport, href⟩ := h.granted n e₀ he₀ (k.state ▸ hstate)
    exact ⟨a, work, (Sequencer.Claims.congr (ho _) (hp _)).mpr (by rwa [k.bank, k.state]), hport, href.trans k.ref.symm⟩
  · intro b x hx n ref hwork
    rw [hm, List.mem_filter] at hx
    have hs := h.recovers b x hx.1 n ref hwork
    exact hs.of_tasks hn hg (hold hs.fresh) fun hperf => hqueued b x hx.1 hx.2 hperf n ref hwork (hs.queued hperf)
  · intro n e he hstate
    obtain ⟨e₀, he₀, k⟩ := htask he (by simp [hstate])
    obtain ⟨hwork, hmirror, hcount⟩ := h.recovering n e₀ he₀ (k.state.symm.trans hstate)
    refine ⟨k.work.trans hwork, k.mirror.trans hmirror, ?_⟩
    rw [Backlog.recoveryCount, hm, List.filter_filter, k.bank, k.ref, ← hcount, Backlog.recoveryCount]
    congr 1
    refine List.filter_congr fun x _ => ?_
    by_cases hx : x.work = .recoveryRead n e₀.ref
    · simp [hx, hrecovering n e he hstate x (by rw [hx, k.ref])]
    · simp [hx]
  · refine fun b => (h.marked b).congr (ho b) ?_ hg
    rw [Backlog.performed, Backlog.performed, hm, List.filter_filter]
    exact List.filter_congr fun x _ => by
      cases hx : x.performing
      · rfl
      · simp [hperforming x hx]

/-- The queues keep or lose tasks, or take new ones; a task that is recovered by an entry not yet performed stays. -/
theorem State.WorkHolds.of_queues (h : s.WorkHolds)
    (ho : ∀ b, (t.banks.get b).operation = (s.banks.get b).operation) (hp : ∀ b, (t.banks.get b).pair = (s.banks.get b).pair)
    (hg : t.commit.active.geometry = s.commit.active.geometry) (hn : s.nextRef ≤ t.nextRef)
    (hm : ∀ b, (t.mirrors.get b).entries = (s.mirrors.get b).entries)
    (hq : ∀ n, ∀ e ∈ t.queues.get n, (s.nextRef ≤ e.ref ∧ e.state = .waiting) ∨ ∃ e₀ ∈ s.queues.get n, e.SameTask e₀)
    (hqueued : ∀ b, ∀ x ∈ (s.mirrors.get b).entries, x.performing = false → ∀ n ref,
      x.work = .recoveryRead n ref → (∃ e ∈ s.queues.get n, e.ref = ref) → ∃ e ∈ t.queues.get n, e.ref = ref) :
    t.WorkHolds :=
  h.of_lists (fun _ => true) ho hp hg hn (fun b => by rw [hm, List.filter_true]) hq (fun _ _ => rfl)
    (fun b x hx _ hperf => hqueued b x hx hperf) fun _ _ _ _ _ _ => rfl

theorem State.WorkHolds.congr (h : s.WorkHolds) (hq : t.queues = s.queues) (hm : t.mirrors = s.mirrors)
    (ho : ∀ b, (t.banks.get b).operation = (s.banks.get b).operation) (hp : ∀ b, (t.banks.get b).pair = (s.banks.get b).pair)
    (hn : t.nextRef = s.nextRef) (hg : t.commit.active.geometry = s.commit.active.geometry) : t.WorkHolds :=
  h.of_queues ho hp hg hn.ge (fun b => by rw [hm]) (fun n e he => .inr ⟨e, hq ▸ he, .refl e⟩)
    fun _ _ _ _ _ _ _ hex => by rwa [hq]

/-! ### A change at one bank -/

/-- A backlog after some change: every RECOVERY-READ in it was there before, and it is not performed where it was not. -/
def Backlog.RecoveriesFrom (l l₀ : Backlog) : Prop :=
  ∀ x ∈ l.entries, ∀ n ref, x.work = .recoveryRead n ref →
    ∃ x₀ ∈ l₀.entries, x₀.work = .recoveryRead n ref ∧ x.address = x₀.address ∧ x.length = x₀.length
      ∧ (x.performing = false → x₀.performing = false)

theorem Backlog.RecoveriesFrom.of_entries {l l₀ : Backlog} (h : l.entries = l₀.entries) : l.RecoveriesFrom l₀ :=
  fun x hx _ _ hw => ⟨x, h ▸ hx, hw, rfl, rfl, id⟩

/-- The queues stay as they are; bank `b` changes what it performs, and the backlogs may lose and gain entries, but gain no RECOVERY-READ and
lose none of a task that stands in a queue. -/
theorem State.WorkHolds.of_bank (h : s.WorkHolds) (b : Bank) (hq : t.queues = s.queues) (hn : t.nextRef = s.nextRef)
    (hg : t.commit.active.geometry = s.commit.active.geometry) (hothers : ∀ c, c ≠ b → t.banks.get c = s.banks.get c)
    (hpairs : (t.banks.get b).pairHolds = true)
    (hclaims : ∀ a state work, (t.banks.get b).Claims a state work → s.Performs b a state work)
    (hgranted : ∀ n, ∀ e ∈ s.queues.get n, e.bank = b → (e.state = .inSlot ∨ e.state = .linked) →
      ∃ a work, (t.banks.get b).Claims a e.state work ∧ a.port = n ∧ a.ref = e.ref)
    (hrecovers : ∀ c, (t.mirrors.get c).RecoveriesFrom (s.mirrors.get c))
    (hcount : ∀ c n, ∀ e ∈ s.queues.get n, e.state = .recovering →
      (t.mirrors.get c).recoveryCount n e.ref = (s.mirrors.get c).recoveryCount n e.ref)
    (hmarked : ∀ c, t.Marked c) : t.WorkHolds := by
  have htask {n : PortId} {ref : Nat} :
      ∀ e ∈ t.queues.get n, e.ref = ref → ∃ e₀ ∈ s.queues.get n, e.SameTask e₀ := fun e he _ => ⟨e, hq ▸ he, .refl e⟩
  constructor
  · intro c
    by_cases hc : c = b
    · exact hc ▸ hpairs
    · rw [hothers c hc, h.pairs c]
  · intro c a state work hclaim
    refine State.Performs.of_tasks (s := s) ?_ hn.ge hg htask
    by_cases hc : c = b
    · subst hc
      exact hclaims a state work hclaim
    · exact h.claims c a state work (by rwa [hothers c hc] at hclaim)
  · intro n e he hstate
    rw [hq] at he
    by_cases hc : e.bank = b
    · rw [hc]
      exact hgranted n e he hc hstate
    · rw [hothers _ hc]
      exact h.granted n e he hstate
  · intro c x hx n ref hwork
    obtain ⟨x₀, hx₀, hwork₀, haddress, hlength, hperf⟩ := hrecovers c x hx n ref hwork
    obtain ⟨hfresh, hentry, hqueued⟩ := h.recovers c x₀ hx₀ n ref hwork₀
    refine ⟨hn ▸ hfresh, fun e he href => ?_, fun hx => by rw [hq]; exact hqueued (hperf hx)⟩
    rw [haddress, hlength, hg]
    exact hentry e (hq ▸ he) href
  · intro n e he hstate
    rw [hq] at he
    rw [hcount _ n e he hstate]
    exact h.recovering n e he hstate
  · exact hmarked

end

end Sys2Proof.Machine
end

section
/-! SUPPORT. The end of a request keeps the invariant, and so do the runs of such ends: expiries and NO-LINK completions. -/

namespace Sys2Proof.Machine

section
variable {s : State} {n : PortId}

/-! ### The end of one request (4.4, R158) -/

theorem State.ListsHold.finishEntry (h : s.ListsHold) (n : PortId) (ref : Nat) (r : CompletionResult) :
    (s.finishEntry n ref r).ListsHold := by
  rw [State.finishEntry_eq]
  constructor
  · intro m
    dsimp only
    by_cases hm : m = n
    · subst hm
      simp only [PerPort.get_set_self, pendingRefs_finish, ← h.tied m, List.filter_map]
      congr 1
      exact List.filter_congr fun e _ => by simp [QueueEntry.hasRef]
    · simp only [PerPort.get_set_of_ne _ hm]
      exact h.tied m
  · intro m
    dsimp only
    by_cases hm : m = n
    · subst hm
      have hrefs : ((s.ports.get m).completions.map fun c => c.finish ref r).map (·.ref)
          = (s.ports.get m).completions.map (·.ref) := by simp
      simp only [PerPort.get_set_self, hrefs, List.forall_mem_map, CompletionEntry.finish_ref]
      exact h.refs m
    · simp only [PerPort.get_set_of_ne _ hm]
      exact h.refs m
  · intro m
    dsimp only
    by_cases hm : m = n
    · subst hm
      simpa only [PerPort.get_set_self, List.length_map] using h.length m
    · simpa only [PerPort.get_set_of_ne _ hm] using h.length m
  · exact fun m e he => h.ages m e ((s.finishEntry_shrinks n ref r m).subset he)
  · intro m
    dsimp only
    by_cases hm : m = n
    · subst hm
      simp only [PerPort.get_set_self]
      intro hline
      simp [h.resets m hline]
    · simp only [PerPort.get_set_of_ne _ hm]
      exact h.resets m

/-- No RECOVERY-READ waits for its turn to recover the request: there is none, or it is being performed. -/
def State.NotAwaited (s : State) (n : PortId) (ref : Nat) : Prop :=
  ∀ b : Bank, ∀ x ∈ (s.mirrors.get b).entries, x.work = .recoveryRead n ref → x.performing = true

/-- Only a RECOVERING request is recovered (R63). -/
theorem State.WorkHolds.notAwaited (h : s.WorkHolds) {e : QueueEntry} (he : e ∈ s.queues.get n) (hs : e.state ≠ .recovering) :
    s.NotAwaited n e.ref := fun b x hx hwork =>
  absurd ((h.recovers b x hx n e.ref hwork).entry e he rfl).1 hs

theorem State.WorkHolds.notAwaited_of_detached (h : s.WorkHolds) {ref : Nat} (hd : s.findEntry n ref = none) :
    s.NotAwaited n ref := by
  intro b x hx hwork
  by_contra hperf
  obtain ⟨e, he, href⟩ := (h.recovers b x hx n ref hwork).queued (by simpa using hperf)
  rw [State.findEntry, List.find?_eq_none] at hd
  exact hd e he (by simp [QueueEntry.hasRef, href])

theorem State.WorkHolds.finishEntry (h : s.WorkHolds) {ref : Nat} (hawait : s.NotAwaited n ref) (r : CompletionResult) :
    (s.finishEntry n ref r).WorkHolds := by
  refine h.of_queues (fun _ => rfl) (fun _ => rfl) rfl le_rfl (fun _ => rfl)
    (fun m e he => .inr ⟨e, (s.finishEntry_shrinks n ref r m).subset he, .refl e⟩) ?_
  rintro b x hx hperf m ref' hwork ⟨e, he, href⟩
  refine ⟨e, ?_, href⟩
  rw [State.finishEntry_eq, PerPort.get_set]
  split
  · rename_i hm
    subst hm
    rw [List.mem_filter]
    refine ⟨he, ?_⟩
    have hne : e.ref ≠ ref := fun heq => by
      rw [hawait b x hx (by rw [hwork, ← href, heq])] at hperf
      cases hperf
    simp [QueueEntry.hasRef, hne]
  · exact he

theorem State.Holds.finishEntry (h : s.Holds) {ref : Nat} (hawait : s.NotAwaited n ref) (r : CompletionResult) :
    (s.finishEntry n ref r).Holds :=
  ⟨h.lists.finishEntry n ref r, h.places.congr rfl rfl, h.work.finishEntry hawait r, h.control.congr rfl rfl rfl rfl,
    h.grid, h.faults, h.captures, h.memory⟩

theorem State.Holds.report (h : s.Holds) (r : FaultRecord) : (s.report r).Holds :=
  ⟨h.lists.congr rfl rfl rfl, h.places.congr rfl rfl, h.work.congr rfl rfl (fun _ => rfl) (fun _ => rfl) rfl rfl,
    h.control.congr rfl rfl rfl rfl, h.grid, LinkController.length_report r h.faults, h.captures, h.memory⟩

theorem State.Holds.failEntry (h : s.Holds) {e : QueueEntry} (hawait : s.NotAwaited n e.ref) (status : ResponseStatus)
    (kind : FaultKind) (position : Nat) : (s.failEntry n e status kind position).Holds :=
  (h.report _).finishEntry (n := n) (ref := e.ref) hawait (bareResult status)

/-- A WAITING request may end at any time. -/
theorem State.Holds.failWaiting (h : s.Holds) {e : QueueEntry} (he : e ∈ s.queues.get n) (hs : e.state = .waiting)
    (status : ResponseStatus) (kind : FaultKind) (position : Nat) : (s.failEntry n e status kind position).Holds :=
  h.failEntry (h.work.notAwaited he (by simp [hs])) status kind position

/-! ### Expiries and NO-LINK completions (R49, R66) -/

theorem State.Holds.expireOldest (h : s.Holds) (n : PortId) : (s.expireOldest n).Holds := by
  unfold State.expireOldest
  split
  · rename_i e he
    have hdue : e.expiryDue = true := List.find?_some he
    rw [QueueEntry.expiryDue, Bool.and_eq_true, decide_eq_true_eq] at hdue
    exact h.failWaiting (List.mem_of_find?_eq_some he) hdue.2 _ _ _
  · exact h

theorem State.Holds.completeNoLink (h : s.Holds) (n : PortId) : (s.completeNoLink n).Holds := by
  unfold State.completeNoLink
  split
  · rename_i e he
    have hlacks : e.lacksPair s.commit.active n = true :=
      List.find?_some (p := fun e : QueueEntry => e.lacksPair s.commit.active n) he
    rw [QueueEntry.lacksPair, Bool.and_eq_true, Bool.and_eq_true, decide_eq_true_eq] at hlacks
    exact h.failWaiting (List.mem_of_find?_eq_some he) hlacks.1.1 _ _ _
  · exact h

/-- A fold of steps that keep a property keeps it. -/
theorem foldl_keeps {α : Type} {P : State → Prop} {f : State → α → State} (step : ∀ s a, P s → P (f s a)) (l : List α)
    {s : State} (h : P s) : P (l.foldl f s) := by
  induction l generalizing s with
  | nil => exact h
  | cons a rest ih => exact ih (step s a h)

theorem State.Holds.expirePort (h : s.Holds) (n : PortId) : (s.expirePort n).Holds :=
  foldl_keeps (P := State.Holds) (fun _ _ h => h.expireOldest n) _ h

theorem State.Holds.expireAll (h : s.Holds) : s.expireAll.Holds :=
  foldl_keeps (P := State.Holds) (fun _ n h => h.expirePort n) _ h

theorem State.Holds.expirePorts (h : s.Holds) (turns : List PortId) : (s.expirePorts turns).Holds :=
  foldl_keeps (P := State.Holds) (fun _ n h => h.expirePort n) turns
    (foldl_keeps (P := State.Holds) (fun _ n h => h.expireOldest n) turns h)

theorem State.Holds.noLinkCompletions (h : s.Holds) (turns : List PortId) : (s.noLinkCompletions turns).Holds := by
  have ports (t : State) (n : PortId) (h : t.Holds) : (t.completeNoLinks n).Holds :=
    foldl_keeps (P := State.Holds) (fun _ _ h => h.completeNoLink n) _ h
  exact foldl_keeps ports allPorts (foldl_keeps (P := State.Holds) (fun _ n h => h.completeNoLink n) turns h)

/-! ### The loss of lock (R149) -/

theorem State.ControlHolds.loseLock (h : s.ControlHolds) : s.loseLock.ControlHolds := by
  unfold State.loseLock
  split
  · rename_i hdue
    obtain ⟨hfree, -, -, hlost, hreaction⟩ := h.sync
    obtain ⟨hlocked, htruncation, hpulse⟩ := hlost hdue
    refine ⟨h.plans, h.position, h.drain, h.draining, h.slips, le_rfl, ?_, ?_, ?_, ?_, hreaction⟩
    · rw [hlocked] at hfree
      exact ⟨nofun, fun henable => absurd (hfree.mpr henable) (by simp)⟩
    · exact fun ht => absurd (htruncation.symm.trans ht) (by simp)
    · exact fun hp => absurd (hpulse.symm.trans hp) (by simp)
    · exact fun hl => absurd hl (by simp [State.report, State.setLink, State.setSync])
  · exact h

theorem State.Holds.loseLock (h : s.Holds) : s.loseLock.Holds := by
  have hcontrol := h.control.loseLock
  revert hcontrol
  unfold State.loseLock
  split
  · intro hcontrol
    exact ⟨h.lists.congr rfl rfl rfl, h.places.congr rfl rfl, h.work.congr rfl rfl (fun _ => rfl) (fun _ => rfl) rfl rfl,
      hcontrol, h.grid, LinkController.length_report _ h.faults, h.captures, h.memory⟩
  · exact fun _ => h

theorem State.Holds.settle (h : s.Holds) : s.settle.Holds := h.loseLock.expireAll

end

end Sys2Proof.Machine
end

section
/-! SUPPORT. The commit controller's reactions keep the invariant: a swap, plain or with a geometry change, an abandoned drain, and a check that
ends no commit. -/

namespace Sys2Proof.Machine

section
variable {s t : State}

/-! ### The commit controller and the sync unit -/

theorem State.slots_pos (s : State) : 0 < s.slots := by
  unfold State.slots
  cases s.commit.active.geometry.cycleLength <;> decide

theorem State.swapDue_iff : s.swapDue = true ↔
    s.commit.reactionDue = true ∧ (s.commit.state = .waiting ∨ (s.commit.state = .draining ∧ s.drained = true)) := by
  simp only [State.swapDue, Bool.and_eq_true, Bool.or_eq_true, decide_eq_true_eq]

/-- The plan installed and the sync enable taken, before the reactions of the other blocks (R129, R143). -/
def State.installed (s : State) : State :=
  s.installPlan.setSync (s.sync.takeEnable s.commit.active.syncEnable s.commit.staged.syncEnable)

theorem State.swap_eq (s : State) (turns : List PortId) : s.swap turns =
    if s.loseLock.commit.state = .draining then s.loseLock.installed.geometryReactions
    else s.loseLock.installed.noLinkCompletions turns := rfl

theorem SyncUnit.takeEnable_cases (u : SyncUnit) (old new : Bool) :
    (old ≠ new ∧ u.takeEnable old new = { u with state := if new then .seeking else .free, missCount := 0 })
    ∨ (old = new ∧ u.takeEnable old new = u) := by
  cases old <;> cases new <;> simp [SyncUnit.takeEnable]

theorem State.ControlHolds.installed (h : s.ControlHolds) (hd : s.swapDue = true) (hl : s.sync.lostDue = false) :
    s.installed.ControlHolds := by
  obtain ⟨hdue, hstate⟩ := State.swapDue_iff.mp hd
  obtain ⟨hactive, hrange, hstagedRange, hstaged, -, -⟩ := h.plans
  obtain ⟨hfree, -, -, -, hreaction⟩ := h.sync
  obtain ⟨htruncation, hpulse⟩ := hreaction hdue
  have hpending : s.commit.state ≠ .none := by rcases hstate with h | ⟨h, -⟩ <;> simp [h]
  have hsync : s.installed.sync = s.sync.takeEnable s.commit.active.syncEnable s.commit.staged.syncEnable := rfl
  constructor
  · exact ⟨hstaged hpending, hstagedRange, hstagedRange, fun hne => absurd rfl hne, nofun, nofun⟩
  · have hposition : s.installed.scheduler.position = 0 := (h.position.2 hdue).2
    exact ⟨by rw [hposition]; exact s.installed.slots_pos, nofun⟩
  · exact h.drain
  · exact nofun
  · rw [hsync]
    rcases s.sync.takeEnable_cases s.commit.active.syncEnable s.commit.staged.syncEnable with ⟨-, heq⟩ | ⟨-, heq⟩ <;> rw [heq]
    · exact h.slips
    · exact h.slips
  · rw [hsync]
    rcases s.sync.takeEnable_cases s.commit.active.syncEnable s.commit.staged.syncEnable with ⟨-, heq⟩ | ⟨-, heq⟩ <;> rw [heq]
    · exact Nat.zero_le 2
    · exact h.misses
  · have hcommit : s.installed.commit.active = s.commit.staged := rfl
    have hnodue : s.installed.commit.reactionDue = false := rfl
    rw [State.SyncConsistent, hsync, hcommit, hnodue]
    rcases s.sync.takeEnable_cases s.commit.active.syncEnable s.commit.staged.syncEnable with ⟨-, heq⟩ | ⟨hsame, heq⟩ <;> rw [heq]
    · cases s.commit.staged.syncEnable <;> simp [htruncation, hpulse, hl]
    · rw [← hsame]
      exact ⟨hfree, by simp [htruncation], by simp [hpulse], by simp [hl], nofun⟩

theorem State.ControlHolds.abandon (h : s.ControlHolds) (hd : s.abandonDue = true) : s.abandon.ControlHolds := by
  obtain ⟨hactive, hrange, hstagedRange, -, -, -⟩ := h.plans
  obtain ⟨hfree, htruncation, hpulse, hlost, -⟩ := h.sync
  have hdraining : s.commit.state = .draining := by
    simp only [State.abandonDue, Bool.and_eq_true, decide_eq_true_eq] at hd
    exact hd.1.1.2
  have hcount := h.draining hdraining
  constructor
  · exact ⟨hactive, hrange, hstagedRange, fun hne => absurd rfl hne, nofun, nofun⟩
  · exact ⟨h.position.1, nofun⟩
  · have hlimit := hrange.2
    show s.commit.drainCount + 1 ≤ 4096
    omega
  · exact nofun
  · exact h.slips
  · exact h.misses
  · exact ⟨hfree, htruncation, hpulse, hlost, nofun⟩

/-- A check that ends no commit counts once more in a drain that is not past its limit (R132). -/
theorem State.ControlHolds.countDrain (h : s.ControlHolds) (hdue : s.commit.reactionDue = true) (hs : s.swapDue = false)
    (ha : s.abandonDue = false) : s.countDrain.ControlHolds := by
  obtain ⟨hfree, htruncation, hpulse, hlost, -⟩ := h.sync
  obtain ⟨-, hrange, -, -, -, -⟩ := h.plans
  have hcount : s.commit.state = .draining → s.commit.drainCount + 1 ≤ s.commit.active.drainLimit := by
    intro hstate
    have hdrained : s.drained = false := by simpa [State.swapDue, hdue, hstate] using hs
    simpa [State.abandonDue, hdue, hstate, hdrained] using ha
  constructor
  · exact h.plans
  · exact ⟨h.position.1, nofun⟩
  · have hlimit := hrange.2
    show (if s.commit.state = .draining then s.commit.drainCount + 1 else s.commit.drainCount) ≤ 4096
    split
    · have := hcount ‹_›
      omega
    · exact h.drain
  · intro hdraining
    have hstate : s.commit.state = .draining := hdraining
    show (if s.commit.state = .draining then s.commit.drainCount + 1 else s.commit.drainCount) ≤ _
    rw [if_pos hstate]
    exact hcount hstate
  · exact h.slips
  · exact h.misses
  · exact ⟨hfree, htruncation, hpulse, hlost, nofun⟩

/-! ### Swaps (R129, R134) -/

theorem State.drained_iff : s.drained = true ↔ (∀ n, s.queues.get n = []) ∧ ∀ b, (s.mirrors.get b).entries = [] := by
  rw [← Bool.not_eq_false, State.drained_eq_false_iff]
  push Not
  rfl

/-- With no list of work and no bank at work there is nothing to tie. -/
theorem State.WorkHolds.of_empty (hq : ∀ n, s.queues.get n = []) (hm : ∀ b, (s.mirrors.get b).entries = [])
    (ho : ∀ b, (s.banks.get b).operation = none) (hp : ∀ b, (s.banks.get b).pair = none) : s.WorkHolds where
  pairs b := by simp only [Sequencer.pairHolds, hp, ho]
  claims b _ _ _ h := absurd h (Sequencer.not_claims (fun o h => by rw [ho b] at h; cases h) (hp b))
  granted n e he := by rw [hq] at he; cases he
  recovers b x hx := by rw [hm] at hx; cases hx
  recovering n e he := by rw [hq] at he; cases he
  marked b := .none (by rw [Backlog.performed, hm]; rfl) fun o h => by rw [ho b] at h; cases h

theorem State.PlacesHold.of_banks (h : s.PlacesHold) (hm : t.mirrors = s.mirrors)
    (ho : ∀ b, (t.banks.get b).operation = (s.banks.get b).operation) (hp : ∀ b, (t.banks.get b).pair = (s.banks.get b).pair) :
    t.PlacesHold :=
  ⟨by simpa only [hm] using h.room, fun b => by rw [hm, Sequencer.owes_congr (ho b) (hp b)]; exact h.reservations b⟩

theorem State.PairsOnGrid.of_no_pairs (h : ∀ b, (t.banks.get b).pair = none) : t.PairsOnGrid :=
  fun b _ => State.pairOnGrid_of_no_pair (h b)

/-- A swap where no loss of lock is due. -/
theorem State.Holds.swap_of_locked (h : s.Holds) (hi : s.IdleBetweenSlots) (hd : s.swapDue = true)
    (hl : s.sync.lostDue = false) (turns : List PortId) :
    (if s.commit.state = .draining then s.installed.geometryReactions else s.installed.noLinkCompletions turns).Holds := by
  obtain ⟨hdue, hstate⟩ := State.swapDue_iff.mp hd
  have hcontrol := h.control.installed hd hl
  have htimer := (h.control.position.2 hdue).1
  have hpair (b : Bank) : (s.banks.get b).pair = none := State.pair_eq_none_of_reactionDue h.grid h.control.position hdue
  have hop (b : Bank) : (s.banks.get b).operation = none := (hi (by simp [htimer]) b (mem_allBanks b)).1
  have hcaptures : s.installed.sync.captures.length ≤ Config.captureCapacity := by
    have heq : s.installed.sync.captures = s.sync.captures := by
      show (s.sync.takeEnable _ _).captures = _
      rcases s.sync.takeEnable_cases s.commit.active.syncEnable s.commit.staged.syncEnable with ⟨-, heq⟩ | ⟨-, heq⟩ <;> rw [heq]
    rw [heq]
    exact h.captures
  split
  · rename_i hdraining
    have hdrained : s.drained = true := (hstate.resolve_left (by simp [hdraining])).2
    obtain ⟨hqueues, hbacklogs⟩ := State.drained_iff.mp hdrained
    have hreaction := s.installed.geometryReactions_reaction
    have hpair' (b : Bank) : (s.installed.geometryReactions.banks.get b).pair = none := (hreaction.pair b).trans (hpair b)
    exact ⟨h.lists.congr rfl rfl rfl, h.places.of_banks rfl hreaction.operation hreaction.pair,
      .of_empty hqueues hbacklogs (fun b => (hreaction.operation b).trans (hop b)) hpair', hcontrol.congr rfl rfl rfl rfl,
      .of_no_pairs hpair', h.faults, hcaptures, h.memory⟩
  · rename_i hnot
    have hwaiting : s.commit.state = .waiting := hstate.resolve_right fun hdrain => hnot hdrain.1
    obtain ⟨-, -, -, -, hgeometry, -⟩ := h.control.plans
    have hinstalled : s.installed.Holds :=
      ⟨h.lists.congr rfl rfl rfl, h.places.congr rfl rfl,
        h.work.congr rfl rfl (fun _ => rfl) (fun _ => rfl) rfl (hgeometry hwaiting), hcontrol, .of_no_pairs hpair, h.faults,
        hcaptures, h.memory⟩
    exact hinstalled.noLinkCompletions turns

theorem State.IdleBetweenSlots.loseLock (h : s.IdleBetweenSlots) : s.loseLock.IdleBetweenSlots := by
  unfold State.loseLock
  split <;> exact h

theorem State.Holds.swap (h : s.Holds) (hi : s.IdleBetweenSlots) (hd : s.swapDue = true) (turns : List PortId) :
    (s.swap turns).Holds := by
  rw [State.swap_eq]
  exact h.loseLock.swap_of_locked hi.loseLock (s.swapDue_loseLock.trans hd) s.lostDue_loseLock turns

/-- Only the commit controller has changed, and not the plan in force. -/
theorem State.Holds.of_control (h : s.Holds) (hcontrol : t.ControlHolds) (hactive : t.commit.active = s.commit.active)
    (ht : t = { s with commit := t.commit }) : t.Holds := by
  rw [ht] at hcontrol ⊢
  refine ⟨h.lists.congr rfl rfl rfl, h.places.congr rfl rfl,
    h.work.congr rfl rfl (fun _ => rfl) (fun _ => rfl) rfl (by rw [hactive]), hcontrol, ?_, h.faults, h.captures, h.memory⟩
  intro b hb
  have hgrid := h.grid b hb
  simp only [State.pairOnGrid, State.currentCode, State.activeRow, State.slots, hactive] at hgrid ⊢
  exact hgrid

theorem State.Holds.abandon (h : s.Holds) (hd : s.abandonDue = true) : s.abandon.Holds :=
  h.of_control (h.control.abandon hd) rfl rfl

/-- The reaction of the commit controller, if one is due (R129 to R132). -/
theorem State.Holds.commitReaction (h : s.Holds) (hi : s.IdleBetweenSlots) (turns : List PortId) :
    (s.commitReaction turns).Holds := by
  unfold State.commitReaction
  split
  · exact h.swap hi ‹_› turns
  · split
    · exact h.abandon ‹_›
    · split
      · exact h.of_control (h.control.countDrain ‹_› (by simpa using ‹¬s.swapDue = true›) (by simpa using ‹¬s.abandonDue = true›))
          rfl rfl
      · exact h

end

end Sys2Proof.Machine
end

section
/-! SUPPORT. Each decision of a bank at a slot start keeps the invariant, and so does the whole slot start. -/

namespace Sys2Proof.Machine

section
variable {s t : State} {b : Bank}

/-! ### A bank without a result to hand back -/

/-- A bank that has handed back, or has not been given anything yet. -/
structure State.BankIdle (s : State) (b : Bank) : Prop where
  operation : (s.banks.get b).operation = none
  first     : (s.banks.get b).pairIn .second = none

theorem State.Marked.performed_nil (h : s.Marked b) (ho : ∀ o, (s.banks.get b).operation = some o → o.ofBacklog = false) :
    (s.mirrors.get b).performed = [] := by
  rcases h with ⟨hp, -⟩ | ⟨x, -, hop⟩
  · exact hp
  · have := ho _ hop
    cases hw : x.work <;> simp [BacklogEntry.operation, hw, Operation.ofBacklog] at this

/-- A bank without operation and pair has granted nothing. -/
theorem State.WorkHolds.not_granted (h : s.WorkHolds) (ho : ∀ o, (s.banks.get b).operation = some o → o.claim = none)
    (hp : (s.banks.get b).pair = none) {n : PortId} {e : QueueEntry} (he : e ∈ s.queues.get n) (hb : e.bank = b) :
    ¬ (e.state = .inSlot ∨ e.state = .linked) := by
  intro hstate
  obtain ⟨a, work, hclaim, -⟩ := h.granted n e he hstate
  exact Sequencer.not_claims ho hp (hb ▸ hclaim)

/-- Bank `b` changes what it performs, from and to anything but a backlog entry. -/
theorem State.WorkHolds.setSequencer (h : s.WorkHolds) (ho : ∀ o, (s.banks.get b).operation = some o → o.ofBacklog = false)
    {q : Sequencer} (hpairs : q.pairHolds = true) (hclaims : ∀ a state work, q.Claims a state work → s.Performs b a state work)
    (hgranted : ∀ n, ∀ e ∈ s.queues.get n, e.bank = b → (e.state = .inSlot ∨ e.state = .linked) →
      ∃ a work, q.Claims a e.state work ∧ a.port = n ∧ a.ref = e.ref)
    (hq : ∀ o, q.operation = some o → o.ofBacklog = false) : (s.setSequencer b q).WorkHolds := by
  have hself : (s.setSequencer b q).banks.get b = q := PerBank.get_set_self _ b q
  have hothers (c : Bank) (hc : c ≠ b) : (s.setSequencer b q).banks.get c = s.banks.get c := PerBank.get_set_of_ne _ hc q
  refine h.of_bank b rfl rfl rfl hothers (hself.symm ▸ hpairs) (hself.symm ▸ hclaims) (hself.symm ▸ hgranted)
    (fun c => .of_entries rfl) (fun _ _ _ _ _ => rfl) fun c => ?_
  by_cases hc : c = b
  · subst hc
    exact .none ((h.marked c).performed_nil ho) (hself.symm ▸ hq)
  · exact (h.marked c).congr (by rw [hothers c hc]) rfl rfl

theorem State.PlacesHold.setSequencer (h : s.PlacesHold) {q : Sequencer} (hq : q.owes = (s.banks.get b).owes) :
    (s.setSequencer b q).PlacesHold := by
  refine ⟨h.room, fun c => (h.reservations c).trans ?_⟩
  rw [State.setSequencer_banks, PerBank.get_set]
  split
  · rename_i hc
    rw [hc, hq]
  · rfl

/-! ### The second slot of a pair, a refresh, a catch-up refresh (R24, R26, R27) -/

theorem AtomicPair.secondOperation_cases {p : AtomicPair} {o : Operation} (h : p.secondOperation = some o) :
    ∃ v, o = .atomicWrite p.access v := by
  unfold AtomicPair.secondOperation at h
  split at h
  · exact ⟨_, (Option.some.inj h).symm⟩
  · cases h
  · cases h

theorem State.WorkHolds.holdSecond (h : s.WorkHolds) (hi : s.BankIdle b) {p : AtomicPair} (hp : (s.banks.get b).pair = some p) :
    (s.holdSecond b p).WorkHolds := by
  have hclaim := h.claims b _ _ _ (Sequencer.claims_pair hp)
  refine h.setSequencer (fun o ho => by rw [hi.operation] at ho; cases ho) ?_ ?_ ?_ ?_
  · cases ho : (p.atSecond (s.presentedOffset b p.access.address)).secondOperation with
    | none => simp [Sequencer.pairHolds]
    | some o =>
      obtain ⟨v, rfl⟩ := AtomicPair.secondOperation_cases ho
      simp [Sequencer.pairHolds, AtomicPair.atSecond]
  · rintro a state work (⟨rfl, o, ho, hc⟩ | ⟨rfl, p', hp', rfl, rfl⟩)
    · obtain ⟨v, rfl⟩ := AtomicPair.secondOperation_cases ho
      cases hc
    · cases hp'
      exact ⟨hclaim.1, rfl, hclaim.2.2⟩
  · intro n e he hb hstate
    obtain ⟨a, work, ⟨-, o, ho, -⟩ | ⟨hlinked, p', hp', rfl, -⟩, hport, href⟩ := h.granted n e he hstate
    · rw [hb, hi.operation] at ho
      cases ho
    · rw [hb, hp] at hp'
      cases hp'
      rw [hlinked]
      exact ⟨_, _, Sequencer.claims_pair (p := p.atSecond (s.presentedOffset b p.access.address)) rfl, hport, href⟩
  · intro o ho
    obtain ⟨v, rfl⟩ := AtomicPair.secondOperation_cases ho
    rfl

theorem Sequencer.owes_of_pair {q : Sequencer} {p : AtomicPair} (ho : (q.operation.map Operation.owes).getD 0 = 0)
    (hp : q.pair = some p) : q.owes = if p.access.mirror then 1 else 0 := by
  rw [Sequencer.owes, ho, hp, Nat.zero_add]
  rfl

theorem Sequencer.owes_of_no_pair {q : Sequencer} (hp : q.pair = none) : q.owes = (q.operation.map Operation.owes).getD 0 := by
  rw [Sequencer.owes, hp]
  rfl

theorem State.PlacesHold.holdSecond (h : s.PlacesHold) (hi : s.BankIdle b) {p : AtomicPair}
    (hp : (s.banks.get b).pair = some p) : (s.holdSecond b p).PlacesHold := by
  refine h.setSequencer ?_
  rw [Sequencer.owes_of_pair (q := s.banks.get b) (by rw [hi.operation]; rfl) hp, Sequencer.owes_of_pair (p := p.atSecond _) ?_ rfl]
  · rfl
  · cases ho : (p.atSecond (s.presentedOffset b p.access.address)).secondOperation with
    | none => rfl
    | some o =>
      obtain ⟨v, rfl⟩ := AtomicPair.secondOperation_cases ho
      rfl

/-- A bank that stands free takes an operation for no port and of no backlog entry. -/
theorem State.WorkHolds.takeRefresh (h : s.WorkHolds) (hi : s.BankIdle b) (hp : (s.banks.get b).pair = none) {o : Operation}
    (ho : o = .refresh ∨ o = .catchUpRefresh) (debt : Bool) :
    (s.setSequencer b { s.banks.get b with operation := some o, debt := debt }).WorkHolds := by
  have hnone : ∀ x, some o = some x → x.claim = none := by rintro x ⟨⟩; rcases ho with rfl | rfl <;> rfl
  refine h.setSequencer (fun o ho => by rw [hi.operation] at ho; cases ho) ?_ ?_ ?_ ?_
  · rcases ho with rfl | rfl <;> simp [Sequencer.pairHolds, hp]
  · exact fun a state work hclaim => absurd hclaim (Sequencer.not_claims (by exact hnone) (by exact hp))
  · exact fun n e he hb hstate => absurd hstate (h.not_granted (fun o ho => by rw [hi.operation] at ho; cases ho) hp he hb)
  · rintro x ⟨⟩
    rcases ho with rfl | rfl <;> rfl

theorem State.PlacesHold.takeRefresh (h : s.PlacesHold) (hi : s.BankIdle b) (hp : (s.banks.get b).pair = none) {o : Operation}
    (ho : o = .refresh ∨ o = .catchUpRefresh) (debt : Bool) :
    (s.setSequencer b { s.banks.get b with operation := some o, debt := debt }).PlacesHold := by
  refine h.setSequencer ((Sequencer.owes_of_no_pair (by exact hp)).trans ?_)
  rw [Sequencer.owes_of_no_pair hp, hi.operation]
  rcases ho with rfl | rfl <;> rfl

/-! ### The service of the backlog head (R33) -/

theorem mem_markHead {y : BacklogEntry} {l : List BacklogEntry} (h : y ∈ markHead l) :
    ∃ x ∈ l, y.work = x.work ∧ y.address = x.address ∧ y.length = x.length ∧ (y.performing = false → x.performing = false) := by
  induction l with
  | nil => cases h
  | cons x rest ih =>
    rw [markHead] at h
    split at h
    · rcases List.mem_cons.mp h with rfl | h
      · exact ⟨y, List.mem_cons_self, rfl, rfl, rfl, id⟩
      · obtain ⟨z, hz, hrest⟩ := ih h
        exact ⟨z, List.mem_cons_of_mem _ hz, hrest⟩
    · rcases List.mem_cons.mp h with rfl | h
      · exact ⟨x, List.mem_cons_self, rfl, rfl, rfl, nofun⟩
      · exact ⟨y, List.mem_cons_of_mem _ h, rfl, rfl, rfl, id⟩

theorem length_filter_work_markHead (p : BacklogWork → Bool) (l : List BacklogEntry) :
    ((markHead l).filter fun x => p x.work).length = (l.filter fun x => p x.work).length := by
  induction l with
  | nil => rfl
  | cons x rest ih =>
    rw [markHead]
    split
    · rw [List.filter_cons, List.filter_cons]
      split <;> simp [ih]
    · rw [List.filter_cons, List.filter_cons]
      dsimp only
      split <;> rfl

/-- Where no entry is being performed, the mark makes the head the only one. -/
theorem Backlog.performed_markHead {l : Backlog} {x : BacklogEntry} (h : l.head = some x) (hp : l.performed = []) :
    (markHead l.entries).filter (fun y => y.performing) = [{ x with performing := true }] := by
  obtain ⟨hx, front, rest, heq, -⟩ := List.find?_eq_some_iff_append.mp h
  have hall : ∀ y ∈ l.entries, y.performing = false := by simpa [Backlog.performed, List.filter_eq_nil_iff] using hp
  cases hl : l.entries with
  | nil => simp [hl] at heq
  | cons y ys =>
    rw [hl] at hall
    rw [List.forall_mem_cons] at hall
    obtain rfl : y = x := by
      rw [Backlog.head, hl, List.find?_cons] at h
      simpa [hall.1] using h
    have hys : ys.filter (fun z => z.performing) = [] := by
      rw [List.filter_eq_nil_iff]
      exact fun z hz => by simp [hall.2 z hz]
    simp [markHead, hall.1, hys]

theorem BacklogEntry.operation_ofBacklog (x : BacklogEntry) (offset : Nat) : (x.operation offset).ofBacklog = true := by
  cases h : x.work <;> simp only [BacklogEntry.operation, h] <;> rfl

theorem Operation.claim_of_ofBacklog {o : Operation} (h : o.ofBacklog = true) : o.claim = none := by
  cases o <;> simp_all [Operation.ofBacklog, Operation.claim]

theorem Operation.owes_of_ofBacklog {o : Operation} (h : o.ofBacklog = true) : o.owes = 0 := by
  cases o <;> simp_all [Operation.ofBacklog, Operation.owes]

theorem Sequencer.pairHolds_of_ofBacklog {q : Sequencer} {o : Operation} (hp : q.pair = none) (ho : q.operation = some o)
    (h : o.ofBacklog = true) : q.pairHolds = true := by
  cases o <;> simp_all [Operation.ofBacklog, Sequencer.pairHolds]

theorem State.WorkHolds.serveBacklog (h : s.WorkHolds) (hi : s.BankIdle b) (hp : (s.banks.get b).pair = none)
    {x : BacklogEntry} (hx : (s.mirrors.get b).head = some x) : (s.serveBacklog b).WorkHolds := by
  have hidle (o : Operation) (ho : (s.banks.get b).operation = some o) : o.claim = none := by rw [hi.operation] at ho; cases ho
  have hoperation : ∀ o, some (x.operation (s.presentedOffset b x.address)) = some o → o.claim = none := by
    rintro o ⟨⟩
    exact Operation.claim_of_ofBacklog (x.operation_ofBacklog _)
  rw [State.serveBacklog_of_head hx]
  refine h.of_bank b rfl rfl rfl (fun c hc => PerBank.get_set_of_ne _ hc _) ?_ ?_ ?_ ?_ ?_ ?_
  · rw [PerBank.get_set_self]
    exact Sequencer.pairHolds_of_ofBacklog hp rfl (x.operation_ofBacklog _)
  · rw [PerBank.get_set_self]
    exact fun a state work hclaim => absurd hclaim (Sequencer.not_claims (by exact hoperation) (by exact hp))
  · exact fun n e he hb hstate => absurd hstate (h.not_granted hidle hp he hb)
  · intro c
    by_cases hc : c = b
    · subst hc
      rw [PerBank.get_set_self]
      intro y hy n ref hwork
      obtain ⟨z, hz, hw, ha, hl, hperf⟩ := mem_markHead hy
      exact ⟨z, hz, hw.symm.trans hwork, ha, hl, hperf⟩
    · rw [PerBank.get_set_of_ne _ hc]
      exact .of_entries rfl
  · intro c n e _ _
    by_cases hc : c = b
    · subst hc
      rw [PerBank.get_set_self]
      exact length_filter_work_markHead (fun w => decide (w = .recoveryRead n e.ref)) _
    · rw [PerBank.get_set_of_ne _ hc]
  · intro c
    by_cases hc : c = b
    · subst hc
      have hnil := (h.marked c).performed_nil fun o ho => by rw [hi.operation] at ho; cases ho
      refine .one { x with performing := true } ?_ ?_
      · rw [PerBank.get_set_self]
        exact Backlog.performed_markHead hx hnil
      · rw [PerBank.get_set_self]
        rfl
    · exact (h.marked c).congr (by rw [PerBank.get_set_of_ne _ hc]) (by rw [PerBank.get_set_of_ne _ hc]) rfl

theorem State.PlacesHold.serveBacklog (h : s.PlacesHold) (hi : s.BankIdle b) (hp : (s.banks.get b).pair = none)
    {x : BacklogEntry} (hx : (s.mirrors.get b).head = some x) : (s.serveBacklog b).PlacesHold := by
  rw [State.serveBacklog_of_head hx]
  constructor
  · intro c
    by_cases hc : c = b
    · subst hc
      simpa only [PerBank.get_set_self, Backlog.occupancy, length_markHead] using h.room c
    · simpa only [PerBank.get_set_of_ne _ hc] using h.room c
  · intro c
    have howes : ((s.banks.set b { s.banks.get b with
        operation := some (x.operation (bankOffset s.commit.active.geometry b x.address)) }).get c).owes
        = (s.banks.get c).owes := by
      by_cases hc : c = b
      · subst hc
        rw [PerBank.get_set_self]
        refine (Sequencer.owes_of_no_pair (by exact hp)).trans ?_
        rw [Sequencer.owes_of_no_pair hp, hi.operation]
        exact Operation.owes_of_ofBacklog (x.operation_ofBacklog _)
      · rw [PerBank.get_set_of_ne _ hc]
    dsimp only
    rw [howes, ← h.reservations c, PerBank.get_set]
    split
    · rename_i hc
      rw [hc]
    · rfl

end

end Sys2Proof.Machine
end

section
/-! SUPPORT. A grant keeps the invariant (R32, R44, R76), and so does the whole slot start. -/

namespace Sys2Proof.Machine

/-! ### The entry that is granted -/

section
variable (e : QueueEntry)

@[simp] theorem QueueEntry.granted_work : e.granted.work = e.work := by rw [QueueEntry.granted_eq]; split <;> rfl
@[simp] theorem QueueEntry.granted_address : e.granted.address = e.address := by rw [QueueEntry.granted_eq]; split <;> rfl
@[simp] theorem QueueEntry.granted_length : e.granted.length = e.length := by rw [QueueEntry.granted_eq]; split <;> rfl
@[simp] theorem QueueEntry.granted_bank : e.granted.bank = e.bank := by rw [QueueEntry.granted_eq]; split <;> rfl
@[simp] theorem QueueEntry.granted_mirror : e.granted.mirror = e.mirror := by rw [QueueEntry.granted_eq]; split <;> rfl
@[simp] theorem QueueEntry.granted_age : e.granted.age = e.age := by rw [QueueEntry.granted_eq]; split <;> rfl

theorem QueueEntry.granted_not_recovering : e.granted.state ≠ .recovering := by
  rw [QueueEntry.granted_eq]
  split <;> simp

/-- A grant gives the bank this entry's request and no other. -/
theorem QueueEntry.claims_granted_iff {q : Sequencer} {n : PortId} {offset : Nat}
    (ho : q.operation = some (e.operation n offset)) (hp : q.pair = e.pair n offset) {a : PortAccess} {state : EntryState}
    {work : Work} : q.Claims a state work ↔ a = e.access n offset ∧ state = e.granted.state ∧ work = e.work := by
  rw [Sequencer.Claims, ho, hp]
  cases hw : e.work <;>
    simp [QueueEntry.operation, QueueEntry.pair, QueueEntry.granted_eq, Operation.claim, hw, eq_comm] <;> tauto

theorem QueueEntry.operation_not_ofBacklog (n : PortId) (offset : Nat) : (e.operation n offset).ofBacklog = false := by
  cases hw : e.work <;> simp only [QueueEntry.operation, hw] <;> rfl

theorem QueueEntry.pairHolds_granted {q : Sequencer} {n : PortId} {offset : Nat}
    (ho : q.operation = some (e.operation n offset)) (hp : q.pair = e.pair n offset) : q.pairHolds = true := by
  cases hw : e.work <;> simp [Sequencer.pairHolds, ho, hp, QueueEntry.operation, QueueEntry.pair, hw]

theorem QueueEntry.owes_granted {q : Sequencer} {n : PortId} {offset : Nat}
    (ho : q.operation = some (e.operation n offset)) (hp : q.pair = e.pair n offset) :
    q.owes = if e.mirror = true ∧ e.work ≠ .read then 1 else 0 := by
  cases hw : e.work <;>
    simp [Sequencer.owes, ho, hp, QueueEntry.operation, QueueEntry.pair, hw, Operation.owes, QueueEntry.access]

end

section
variable {s : State} {b : Bank} {n : PortId} {e : QueueEntry}

/-- After a change of one entry a queue holds its other entries as they were, and the changed one. -/
theorem State.mem_updateEntry (ht : s.Tied) (hr : s.RefsFresh) (he : e ∈ s.queues.get n) {f : QueueEntry → QueueEntry}
    {m : PortId} {x : QueueEntry} (hx : x ∈ (s.updateEntry n e.ref f).queues.get m) :
    (m = n ∧ x = f e) ∨ (x ∈ s.queues.get m ∧ (m = n → x.ref ≠ e.ref)) := by
  rw [State.updateEntry_eq_of_ref, PerPort.get_set] at hx
  split at hx
  · rename_i hm
    subst hm
    obtain ⟨y, hy, rfl⟩ := List.mem_map.mp hx
    split
    · rename_i href
      exact .inl ⟨rfl, by rw [ht.eq_of_ref hr he hy href]⟩
    · rename_i href
      exact .inr ⟨hy, fun _ => href⟩
  · rename_i hm
    exact .inr ⟨hx, fun h => absurd h hm⟩

theorem State.updateEntry_refs {f : QueueEntry → QueueEntry} (hf : ∀ x, (f x).ref = x.ref) (ref : Nat) (m : PortId) :
    ((s.updateEntry n ref f).queues.get m).map (·.ref) = (s.queues.get m).map (·.ref) := by
  rw [State.updateEntry_eq_of_ref, PerPort.get_set]
  split
  · rename_i hm
    subst hm
    rw [List.map_map]
    refine List.map_congr_left fun x _ => ?_
    rw [Function.comp_apply]
    split
    · exact hf x
    · rfl
  · rfl

/-- An entry of the same reference stands in the queue after the change. -/
theorem State.exists_updateEntry {f : QueueEntry → QueueEntry} (hf : ∀ x, (f x).ref = x.ref) (ref : Nat) {m : PortId}
    {y : QueueEntry} (hy : y ∈ s.queues.get m) : ∃ x ∈ (s.updateEntry n ref f).queues.get m, x.ref = y.ref := by
  have hin : y.ref ∈ ((s.updateEntry n ref f).queues.get m).map (·.ref) := by
    rw [State.updateEntry_refs hf]
    exact List.mem_map_of_mem hy
  exact List.mem_map.mp hin

theorem State.ListsHold.updateEntry (h : s.ListsHold) {f : QueueEntry → QueueEntry} (hf : ∀ x, (f x).ref = x.ref)
    (hage : ∀ x, (f x).age = x.age) (n : PortId) (ref : Nat) : (s.updateEntry n ref f).ListsHold := by
  constructor
  · exact fun m => (State.updateEntry_refs hf ref m).trans (h.tied m)
  · exact h.refs
  · exact h.length
  · intro m x hx
    rw [State.updateEntry_eq_of_ref, PerPort.get_set] at hx
    split at hx
    · obtain ⟨y, hy, rfl⟩ := List.mem_map.mp hx
      have hy := h.ages n y hy
      split
      · rwa [hage]
      · exact hy
    · exact h.ages m x hx
  · intro m hline
    obtain ⟨hq, hc⟩ := h.resets m hline
    have hrefs := State.updateEntry_refs (s := s) (n := n) hf ref m
    rw [hq, List.map_nil, List.map_eq_nil_iff] at hrefs
    exact ⟨hrefs, hc⟩

/-- A grant changes the queues by its own entry. -/
theorem State.grant_queues : (s.grant b n e).queues = (s.updateEntry n e.ref QueueEntry.granted).queues := by
  rw [State.grant_eq, State.updateEntry_eq_of_ref]

theorem State.ListsHold.grant (h : s.ListsHold) : (s.grant b n e).ListsHold := by
  refine (h.updateEntry QueueEntry.granted_ref QueueEntry.granted_age n e.ref).congr State.grant_queues ?_ ?_ <;>
    rw [State.grant_eq] <;> rfl

theorem State.grant_entries (c : Bank) : ((s.grant b n e).mirrors.get c).entries = (s.mirrors.get c).entries := by
  rw [State.grant_eq]
  dsimp only
  split
  · rw [PerBank.get_set]
    split
    · rename_i hc
      rw [hc]
    · rfl
  · rfl

theorem State.WorkHolds.grant (h : s.WorkHolds) (hl : s.ListsHold) (hi : s.BankIdle b) (hp : (s.banks.get b).pair = none)
    (hc : s.candidate n b = some e) : (s.grant b n e).WorkHolds := by
  have he : e ∈ s.queues.get n := State.candidate_mem hc
  have hwaiting : e.state = .waiting := State.candidate_waiting hc
  have hbank : e.bank = b := State.candidate_bank hc
  have hmem {m : PortId} {x : QueueEntry} (hx : x ∈ (s.grant b n e).queues.get m) :=
    State.mem_updateEntry hl.tied hl.refs he (State.grant_queues ▸ hx)
  have hself : (s.grant b n e).banks.get b = { s.banks.get b with
      operation := some (e.operation n (s.presentedOffset b e.address)), pair := e.pair n (s.presentedOffset b e.address) } := by
    rw [State.grant_banks, PerBank.get_set_self]
  have hothers (c : Bank) (hcb : c ≠ b) : (s.grant b n e).banks.get c = s.banks.get c := by
    rw [State.grant_banks, PerBank.get_set_of_ne _ hcb]
  have hnext : (s.grant b n e).nextRef = s.nextRef := by rw [State.grant_eq]
  have hcommit : (s.grant b n e).commit = s.commit := by rw [State.grant_eq]
  have hgeometry : (s.grant b n e).commit.active.geometry = s.commit.active.geometry := by rw [hcommit]
  have hclaims {a : PortAccess} {state : EntryState} {work : Work} : ((s.grant b n e).banks.get b).Claims a state work ↔
      a = e.access n (s.presentedOffset b e.address) ∧ state = e.granted.state ∧ work = e.work :=
    e.claims_granted_iff (by rw [hself]) (by rw [hself])
  constructor
  · intro c
    by_cases hcb : c = b
    · subst hcb
      exact e.pairHolds_granted (by rw [hself]) (by rw [hself])
    · rw [hothers c hcb]
      exact h.pairs c
  · intro c a state work hclaim
    by_cases hcb : c = b
    · subst hcb
      obtain ⟨rfl, rfl, rfl⟩ := hclaims.mp hclaim
      refine ⟨hnext ▸ hl.tied.ref_lt hl.refs he, (State.presentedOffset_congr hgeometry c e.address).symm, fun x hx href => ?_⟩
      rcases hmem hx with ⟨-, rfl⟩ | ⟨-, hne⟩
      · exact ⟨rfl, e.granted_work, e.granted_bank.trans hbank, e.granted_address, e.granted_length, e.granted_mirror⟩
      · exact absurd href (hne rfl)
    · rw [hothers c hcb] at hclaim
      have hs := h.claims c a state work hclaim
      refine hs.of_tasks hnext.ge hgeometry fun x hx href => ?_
      rcases hmem hx with ⟨hn, rfl⟩ | ⟨hx, -⟩
      · have hc' := (hs.2.2 e (hn ▸ he) (e.granted_ref.symm.trans href)).2.2.1
        exact absurd (hc'.symm.trans hbank) hcb
      · exact ⟨x, hx, .refl x⟩
  · intro m x hx hstate
    rcases hmem hx with ⟨rfl, rfl⟩ | ⟨hx, -⟩
    · rw [e.granted_bank, hbank]
      exact ⟨_, _, hclaims.mpr ⟨rfl, rfl, rfl⟩, rfl, e.granted_ref.symm⟩
    · have hxb : x.bank ≠ b := fun hxb =>
        h.not_granted (fun o ho => by rw [hi.operation] at ho; cases ho) hp hx hxb hstate
      rw [hothers _ hxb]
      exact h.granted m x hx hstate
  · intro c x hx m ref hwork
    rw [State.grant_entries] at hx
    have hs := h.recovers c x hx m ref hwork
    refine hs.of_tasks hnext.ge hgeometry (fun y hy href => ?_) fun hperf => ?_
    · rcases hmem hy with ⟨hn, rfl⟩ | ⟨hy, -⟩
      · have hrecovering := (hs.entry e (hn ▸ he) (e.granted_ref.symm.trans href)).1
        rw [hwaiting] at hrecovering
        cases hrecovering
      · exact ⟨y, hy, .refl y⟩
    · obtain ⟨y, hy, rfl⟩ := hs.queued hperf
      rw [State.grant_queues]
      exact State.exists_updateEntry QueueEntry.granted_ref e.ref hy
  · intro m x hx hstate
    rcases hmem hx with ⟨-, rfl⟩ | ⟨hx, -⟩
    · exact absurd hstate e.granted_not_recovering
    · rw [Backlog.recoveryCount, State.grant_entries]
      exact h.recovering m x hx hstate
  · intro c
    have hperformed : ((s.grant b n e).mirrors.get c).performed = (s.mirrors.get c).performed := by
      rw [Backlog.performed, Backlog.performed, State.grant_entries]
    by_cases hcb : c = b
    · subst hcb
      refine .none (hperformed.trans ((h.marked c).performed_nil fun o ho => by rw [hi.operation] at ho; cases ho)) ?_
      rw [hself]
      rintro o ⟨⟩
      exact e.operation_not_ofBacklog _ _
    · exact (h.marked c).congr (by rw [hothers c hcb]) hperformed hgeometry

/-- A mirrored write or atomic is granted only where the partner backlog has room for it (R30, R76). -/
theorem State.PlacesHold.grant (h : s.PlacesHold) (hi : s.BankIdle b) (hp : (s.banks.get b).pair = none)
    (heligible : s.eligible b n e = true) : (s.grant b n e).PlacesHold := by
  have hroom : e.mirror = true ∧ e.work ≠ .read → (s.mirrors.get (partnerBank b)).hasRoom = true := by
    rw [State.eligible, Bool.and_eq_true, State.mirrorRoom_iff] at heligible
    exact fun hm => heligible.2 hm.2 hm.1
  have hfree : (s.banks.get b).owes = 0 := by rw [Sequencer.owes_of_no_pair hp, hi.operation]; rfl
  have howes (c : Bank) : ((s.grant b n e).banks.get c).owes =
      if c = b ∧ e.mirror = true ∧ e.work ≠ .read then 1 else (s.banks.get c).owes := by
    rw [State.grant_banks]
    by_cases hc : c = b
    · subst hc
      rw [PerBank.get_set_self, e.owes_granted rfl rfl, hfree]
      simp
    · rw [PerBank.get_set_of_ne _ hc, if_neg fun h => hc h.1]
  have hmirrors (c : Bank) : (s.grant b n e).mirrors.get c = if c = partnerBank b ∧ e.mirror = true ∧ e.work ≠ .read then
      { s.mirrors.get c with reservations := (s.mirrors.get c).reservations + 1 } else s.mirrors.get c := by
    rw [State.grant_eq]
    dsimp only
    by_cases hm : e.mirror = true ∧ e.work ≠ .read
    · rw [if_pos hm, PerBank.get_set]
      by_cases hc : c = partnerBank b <;> simp [hc, hm]
    · rw [if_neg hm, if_neg fun h => hm h.2]
  constructor
  · intro c
    rw [hmirrors]
    split
    · rename_i hc
      have hlt := (Backlog.hasRoom_iff _).mp (hroom hc.2)
      rw [← hc.1] at hlt
      simp only [Backlog.occupancy, Config.backlogCapacity]
      omega
    · exact h.room c
  · intro c
    have hiff : partnerBank c = partnerBank b ↔ c = b := ⟨partnerBank_injective, fun hc => by rw [hc]⟩
    simp only [hmirrors, howes, hiff]
    split
    · rename_i hc
      rw [h.reservations, hc.1, hfree]
    · exact h.reservations c

/-! ### Every decision, and the slot start (R20, R38) -/

/-- The lists, the places and the ties of the work. -/
structure State.TrafficHolds (s : State) : Prop where
  lists  : s.ListsHold
  places : s.PlacesHold
  work   : s.WorkHolds

theorem State.Decides.trafficHolds {t : State} (d : s.Decides b t) (h : s.TrafficHolds) (hi : s.BankIdle b) :
    t.TrafficHolds := by
  obtain ⟨hl, hp, hw⟩ := h
  cases d with
  | nothing => exact ⟨hl, hp, hw⟩
  | hold used pair => exact ⟨hl.congr rfl rfl rfl, hp.holdSecond hi pair, hw.holdSecond hi pair⟩
  | catchUp used pair =>
    exact ⟨hl.congr rfl rfl rfl, hp.takeRefresh hi pair (.inr rfl) false, hw.takeRefresh hi pair (.inr rfl) false⟩
  | grantPort used pair code candidate eligible =>
    exact ⟨hl.grant, hp.grant hi pair eligible, hw.grant hl hi pair candidate⟩
  | grantOpen used pair code candidate eligible =>
    exact ⟨hl.grant.congr rfl rfl rfl, (hp.grant hi pair eligible).congr rfl rfl,
      (hw.grant hl hi pair candidate).congr rfl rfl (fun _ => rfl) (fun _ => rfl) rfl rfl⟩
  | @serve x used pair code head =>
    refine ⟨hl.congr ?_ ?_ ?_, hp.serveBacklog hi pair head, hw.serveBacklog hi pair head⟩ <;>
      rw [State.serveBacklog_of_head head]
  | refresh used pair => exact ⟨hl.congr rfl rfl rfl, hp.takeRefresh hi pair (.inl rfl) _, hw.takeRefresh hi pair (.inl rfl) _⟩

theorem State.BankIdle.of_decideBank {c : Bank} (h : s.BankIdle b) (hb : b ≠ c) : (s.decideBank c).BankIdle b := by
  have hsame : (s.decideBank c).banks.get b = s.banks.get b := State.decideBank_banks_of_ne hb
  exact ⟨by rw [hsame, h.operation], by rw [hsame, h.first]⟩

theorem State.TrafficHolds.decideBanks {l : List Bank} (hl : l.Nodup) (h : s.TrafficHolds) (hi : ∀ b ∈ l, s.BankIdle b) :
    (l.foldl State.decideBank s).TrafficHolds := by
  induction l generalizing s with
  | nil => exact h
  | cons c rest ih =>
    rw [List.nodup_cons] at hl
    refine ih hl.2 ((s.decideBank_decides c).trafficHolds h (hi c List.mem_cons_self)) fun b hb => ?_
    exact (hi b (List.mem_cons_of_mem _ hb)).of_decideBank fun heq => hl.1 (heq ▸ hb)

theorem State.Holds.traffic (h : s.Holds) : s.TrafficHolds := ⟨h.lists, h.places, h.work⟩

/-- Where no boundary's reaction is due, the slot timer may move. -/
theorem State.ControlHolds.of_not_due {t : State} (h : s.ControlHolds) (hd : s.commit.reactionDue = false)
    (hc : t.commit = s.commit) (hs : t.sync = s.sync) (hp : t.scheduler.position < t.slots) : t.ControlHolds := by
  obtain ⟨hplans, -, hdrain, hdraining, hslips, hmisses, hsync⟩ := h
  constructor
  · simpa only [State.PlansValid, hc] using hplans
  · exact ⟨hp, fun hdue => by rw [hc, hd] at hdue; cases hdue⟩
  · simpa only [hc] using hdrain
  · simpa only [hc] using hdraining
  · simpa only [hs] using hslips
  · simpa only [hs] using hmisses
  · simpa only [State.SyncConsistent, hc, hs] using hsync

/-- The pair that a bank holds from its decision on stands on the grid of the slot that starts (R26, R42). -/
theorem State.Decides.pairOnGrid {t v : State} (d : s.Decides b v) (hg : s.pairOnGrid b = true)
    (ht : s.scheduler.timer = .starting) (hrunning : t.scheduler.timer = .running) (hc : t.commit = s.commit)
    (hp : t.scheduler.position = s.scheduler.position) (hb : t.banks.get b = v.banks.get b) : t.pairOnGrid b = true := by
  have hcode : t.currentCode b = s.currentCode b := by rw [State.currentCode, State.activeRow, hc, hp]; rfl
  have hgrant {n : PortId} {e : QueueEntry} (used : rowUsed s.commit.active.geometry.split b = true)
      (eligible : s.eligible b n e = true) (hpair : (t.banks.get b).pair = e.pair n (s.presentedOffset b e.address)) :
      t.pairOnGrid b = true := by
    cases hw : e.work with
    | read | write => exact State.pairOnGrid_of_no_pair (by rw [hpair, QueueEntry.pair, hw])
    | atomic kind operand =>
      rw [State.eligible, Bool.and_eq_true, hw, State.atomicSlot_of_atomic] at eligible
      simp only [State.pairOnGrid, hpair, QueueEntry.pair, hw, hrunning, State.activeRow, State.slots, hc, hp, used]
      exact eligible.1
  cases d with
  | nothing h =>
    apply State.pairOnGrid_of_no_pair
    rw [hb]
    cases hpair : (s.banks.get b).pair with
    | none => rfl
    | some p => exact absurd (h (State.pairOnGrid_starting hg ht hpair).1) (by simp [hpair])
  | @hold p used pair =>
    obtain ⟨-, -, -, hport⟩ := State.pairOnGrid_starting hg ht pair
    have hpair : (t.banks.get b).pair = some (p.atSecond (s.presentedOffset b p.access.address)) := by
      rw [hb, State.holdSecond, State.setSequencer_banks, PerBank.get_set_self]
    simp only [State.pairOnGrid, hpair, hrunning, hcode, hc, used, AtomicPair.atSecond, hport, decide_true, Bool.and_self]
  | catchUp used pair =>
    exact State.pairOnGrid_of_no_pair (by rw [hb, State.catchUp, State.setSequencer_banks, PerBank.get_set_self]; exact pair)
  | grantPort used pair code candidate eligible =>
    exact hgrant used eligible (by rw [hb, State.grant_banks, PerBank.get_set_self])
  | grantOpen used pair code candidate eligible =>
    exact hgrant used eligible (by rw [hb, State.movePointer, State.setScheduler_banks, State.grant_banks, PerBank.get_set_self])
  | serve used pair code head =>
    exact State.pairOnGrid_of_no_pair (by rw [hb, State.serveBacklog_banks head, PerBank.get_set_self]; exact pair)
  | refresh used pair =>
    exact State.pairOnGrid_of_no_pair
      (by rw [hb, State.giveOperation, State.setSequencer_banks, PerBank.get_set_self]; exact pair)

theorem State.startSlot_timer (s : State) : s.startSlot.scheduler.timer = .running := rfl

theorem State.startSlot_pairsOnGrid (ht : s.scheduler.timer = .starting) (hg : s.PairsOnGrid) (hc : s.PositionInCycle) :
    s.startSlot.PairsOnGrid := by
  intro b _
  obtain ⟨u, hu⟩ := State.exists_decidesIn ht hg hc b
  exact (u.decideBank_decides b).pairOnGrid hu.grid hu.timer s.startSlot_timer hu.commit hu.position hu.result

/-- The freed places are free from the slot start on (R78, R92). -/
theorem State.TrafficHolds.openFreedPlaces (h : s.TrafficHolds) : s.openFreedPlaces.TrafficHolds := by
  have hmirror (b : Bank) : s.openFreedPlaces.mirrors.get b = { s.mirrors.get b with freed := 0 } := by
    rw [State.openFreedPlaces_eq, PerBank.get_map]
  refine ⟨h.lists.congr rfl rfl rfl, ⟨fun b => ?_, fun b => ?_⟩, ?_⟩
  · rw [hmirror]
    exact (Nat.le_add_right _ _).trans (h.places.room b)
  · rw [hmirror]
    exact h.places.reservations b
  · exact h.work.of_queues (fun _ => rfl) (fun _ => rfl) rfl le_rfl (fun b => by rw [hmirror])
      (fun n e he => .inr ⟨e, he, .refl e⟩) fun _ _ _ _ _ _ _ hex => hex

/-- A slot start keeps the invariant (R20). -/
theorem State.Holds.startSlot (h : s.Holds) (hi : s.IdleBetweenSlots) (ht : s.scheduler.timer = .starting) :
    s.startSlot.Holds := by
  have hreaction := s.loseLock_reaction.trans (s.loseLock.commitReaction_reaction [])
  have hready : (s.loseLock.commitReaction []).Holds := h.loseLock.commitReaction hi.loseLock []
  have hidle (b : Bank) : (s.loseLock.commitReaction []).openFreedPlaces.BankIdle b := by
    obtain ⟨hop, hfirst⟩ := hi (by simp [ht]) b (mem_allBanks b)
    refine ⟨(hreaction.operation b).trans hop, ?_⟩
    rw [Sequencer.pairIn] at hfirst ⊢
    exact (congrArg _ (hreaction.pair b)).trans hfirst
  have htraffic : ((allBanks.foldl State.decideBank (s.loseLock.commitReaction []).openFreedPlaces)).TrafficHolds :=
    hready.traffic.openFreedPlaces.decideBanks nodup_allBanks fun b _ => hidle b
  have hframe := State.decideBanks_frame (s.loseLock.commitReaction []).openFreedPlaces allBanks
  have hposition : s.startSlot.scheduler.position = (s.loseLock.commitReaction []).scheduler.position := by
    rw [State.startSlot, State.beginSlot, State.setScheduler_scheduler, hframe.scheduler]
    rfl
  have hcommit : s.startSlot.commit = (s.loseLock.commitReaction []).commit := hframe.commit
  refine ⟨htraffic.lists.congr rfl rfl rfl, htraffic.places.congr rfl rfl,
    htraffic.work.congr rfl rfl (fun _ => rfl) (fun _ => rfl) rfl rfl, ?_, s.startSlot_pairsOnGrid ht h.grid h.control.position,
    ?_, ?_, ?_⟩
  · refine hready.control.of_not_due (State.commitReaction_reactionDue _ []) hcommit hframe.sync ?_
    rw [State.slots, hposition, hcommit]
    exact hready.control.position.1
  · exact hframe.link ▸ hready.faults
  · exact hframe.sync ▸ hready.captures
  · exact (congrArg Memory.wf hframe.memory).trans hready.memory

end

end Sys2Proof.Machine
end

section
/-! SUPPORT. Every result that a bank hands back keeps the invariant: the request ends first, and then the bank is free. -/

namespace Sys2Proof.Machine

section
variable {s : State} {b : Bank}

/-! ### The request of a claim -/

/-- A granted entry of bank `b` is the one that the bank performs. -/
theorem State.WorkHolds.request_of_inSlot (h : s.WorkHolds) {o : Operation} (ho : (s.banks.get b).operation = some o)
    {n : PortId} {e : QueueEntry} (he : e ∈ s.queues.get n) (hb : e.bank = b) (hs : e.state = .inSlot) :
    ∃ a work, o.claim = some (a, work) ∧ a.port = n ∧ a.ref = e.ref := by
  obtain ⟨a, work, ⟨-, o', ho', hc⟩ | ⟨hlinked, -⟩, hport, href⟩ := h.granted n e he (.inl hs)
  · rw [hb, ho] at ho'
    cases ho'
    exact ⟨a, work, hc, hport, href⟩
  · rw [hs] at hlinked
    cases hlinked

theorem State.WorkHolds.request_of_linked (h : s.WorkHolds) {p : AtomicPair} (hp : (s.banks.get b).pair = some p)
    {n : PortId} {e : QueueEntry} (he : e ∈ s.queues.get n) (hb : e.bank = b) (hs : e.state = .linked) :
    p.access.port = n ∧ p.access.ref = e.ref := by
  obtain ⟨a, work, ⟨hslot, -⟩ | ⟨-, p', hp', rfl, -⟩, hport, href⟩ := h.granted n e he (.inr hs)
  · rw [hs] at hslot
    cases hslot
  · rw [hb, hp] at hp'
    cases hp'
    exact ⟨hport, href⟩

/-- The request of a claim is not one that is recovered. -/
theorem State.WorkHolds.notAwaited_of_claims (h : s.WorkHolds) {a : PortAccess} {state : EntryState} {work : Work}
    (hclaim : (s.banks.get b).Claims a state work) : s.NotAwaited a.port a.ref := by
  intro c x hx hwork
  by_contra hperf
  have hs := h.recovers c x hx a.port a.ref hwork
  obtain ⟨e, he, href⟩ := hs.queued (by simpa using hperf)
  have hstate := ((h.claims b a state work hclaim).2.2 e he href).1
  rw [(hs.entry e he href).1] at hstate
  subst hstate
  rcases hclaim with ⟨hslot, -⟩ | ⟨hlinked, -⟩
  · cases hslot
  · cases hlinked

theorem State.finishAccess_of_found {a : PortAccess} {e : QueueEntry} (he : s.findEntry a.port a.ref = some e)
    (r : CompletionResult) : s.finishAccess a r = s.finishEntry a.port a.ref r := by
  simp only [State.finishAccess, he]

theorem State.Holds.finishAccess (h : s.Holds) {a : PortAccess} {state : EntryState} {work : Work}
    (hclaim : (s.banks.get b).Claims a state work) (r : CompletionResult) : (s.finishAccess a r).Holds := by
  unfold State.finishAccess
  split
  · exact h
  · exact h.finishEntry (h.work.notAwaited_of_claims hclaim) r

/-- The request has left its queue. -/
def State.Gone (s : State) (n : PortId) (ref : Nat) : Prop := ∀ e ∈ s.queues.get n, e.ref ≠ ref

theorem State.finishEntry_gone (n : PortId) (ref : Nat) (r : CompletionResult) : (s.finishEntry n ref r).Gone n ref := by
  intro e he
  rw [State.finishEntry_eq_of_ref, PerPort.get_set_self, List.mem_filter] at he
  exact of_decide_eq_true he.2

theorem State.gone_of_findEntry_none {n : PortId} {ref : Nat} (h : s.findEntry n ref = none) : s.Gone n ref := by
  intro e he
  rw [State.findEntry, List.find?_eq_none] at h
  simpa [QueueEntry.hasRef] using h e he

theorem State.finishAccess_gone (a : PortAccess) (r : CompletionResult) : (s.finishAccess a r).Gone a.port a.ref := by
  cases he : s.findEntry a.port a.ref with
  | none =>
    simp only [State.finishAccess, he]
    exact State.gone_of_findEntry_none he
  | some e =>
    rw [State.finishAccess_of_found he]
    exact State.finishEntry_gone _ _ r

/-! ### A bank without its operation -/

/-- A bank gives up an operation whose request, if it has one, has left its queue. -/
theorem State.WorkHolds.clearOperation (h : s.WorkHolds) {o : Operation} (ho : (s.banks.get b).operation = some o)
    (hkind : o.ofBacklog = false) (hgone : ∀ a work, o.claim = some (a, work) → s.Gone a.port a.ref) :
    (s.clearOperation b).WorkHolds := by
  refine h.setSequencer (fun x hx => by rw [ho] at hx; cases hx; exact hkind) ?_ ?_ ?_ (fun o ho => by cases ho)
  · cases hp : (s.banks.get b).pair <;> simp [Sequencer.pairHolds, hp]
  · rintro a state work (⟨-, x, hx, -⟩ | hpair)
    · cases hx
    · exact h.claims b a state work (.inr hpair)
  · rintro n e he hb (hstate | hstate)
    · obtain ⟨a, work, hclaim, rfl, href⟩ := h.request_of_inSlot ho he hb hstate
      exact absurd href.symm (hgone a work hclaim e he)
    · obtain ⟨a, work, ⟨hslot, -⟩ | hpair, hport, href⟩ := h.granted n e he (.inr hstate)
      · rw [hstate] at hslot
        cases hslot
      · exact ⟨a, work, .inr (hb ▸ hpair), hport, href⟩

theorem Sequencer.owes_clear {q : Sequencer} {o : Operation} (ho : q.operation = some o) (hfree : o.owes = 0) :
    ({ q with operation := none } : Sequencer).owes = q.owes := by
  rw [Sequencer.owes, Sequencer.owes, ho]
  simp [hfree]

theorem State.PlacesHold.clearOperation (h : s.PlacesHold) {o : Operation} (ho : (s.banks.get b).operation = some o)
    (hfree : o.owes = 0) : (s.clearOperation b).PlacesHold :=
  h.setSequencer (Sequencer.owes_clear ho hfree)

/-- The bank has handed back, and no other sequencer has changed. -/
def State.EndsBank (s : State) (b : Bank) (t : State) : Prop :=
  ∃ r, (s.banks.get b).EndsAs r ∧ t.banks = s.banks.set b r

/-- The parts of the invariant that no result touches come from before it. -/
theorem State.Holds.of_result {t : State} (h : s.Holds) (hb : s.EndsBank b t) (hframe : EndFrame s t) (ht : t.TrafficHolds)
    (hfaults : t.link.faults.length ≤ Config.faultCapacity) (hmemory : t.MemoryCanonical) : t.Holds := by
  refine ⟨ht.lists, ht.places, ht.work, h.control.congr hframe.commit hframe.sync (by rw [hframe.scheduler])
    (by rw [hframe.scheduler]), ?_, hfaults, hframe.sync ▸ h.captures, hmemory⟩
  intro c hc
  obtain ⟨r, hr, hbanks⟩ := hb
  have hgrid := h.grid c hc
  by_cases hcb : c = b
  · subst hcb
    cases hp : r.pair with
    | none => exact State.pairOnGrid_of_no_pair (by rw [hbanks, PerBank.get_set_self, hp])
    | some p =>
      obtain ⟨p₀, hp₀, hslot, haccess⟩ := hr.pair p hp
      have hpt : (t.banks.get c).pair = some p := by rw [hbanks, PerBank.get_set_self, hp]
      simp only [State.pairOnGrid, hp₀, State.currentCode, State.activeRow, State.slots] at hgrid
      simp only [State.pairOnGrid, hpt, hslot, haccess, State.currentCode, State.activeRow, State.slots, hframe.commit,
        hframe.scheduler]
      exact hgrid
  · rw [State.pairOnGrid_congr (by rw [hbanks, PerBank.get_set_of_ne _ hcb]) hframe.commit (by rw [hframe.scheduler])
      (by rw [hframe.scheduler])]
    exact hgrid

/-- A bank that gives up an operation for no port and of no backlog entry. -/
theorem State.Holds.clearOperation (h : s.Holds) {o : Operation} (ho : (s.banks.get b).operation = some o)
    (hkind : o.ofBacklog = false) (hfree : o.owes = 0) (hgone : ∀ a work, o.claim = some (a, work) → s.Gone a.port a.ref)
    (first : (s.banks.get b).pairIn .second = none) : (s.clearOperation b).Holds :=
  h.of_result ⟨_, Sequencer.endsAs_clear first, rfl⟩ (s.clearOperation_frame b)
    ⟨h.lists.congr rfl rfl rfl, h.places.clearOperation ho hfree, h.work.clearOperation ho hkind hgone⟩ h.faults h.memory

end

end Sys2Proof.Machine
end

section
/-! SUPPORT. The slot end of a READ and of a WRITE keeps the invariant (R61, R62, R77, R84, R85). -/

namespace Sys2Proof.Machine

section
variable {s : State} {b : Bank} {a : PortAccess}

/-! ### READ_COMPLETE (R61, R70, R84, R85) -/

theorem partnerBank_partnerBank (b : Bank) : partnerBank (partnerBank b) = b := by cases b <;> rfl

/-- A bank with an operation that belongs to no pair is held by none (R26). -/
theorem State.WorkHolds.pair_eq_none (h : s.WorkHolds) {o : Operation} (ho : (s.banks.get b).operation = some o)
    (hfree : ∀ x, o ≠ .atomicRead x) (hfree' : ∀ x v, o ≠ .atomicWrite x v) : (s.banks.get b).pair = none := by
  have hpairs := h.pairs b
  cases hp : (s.banks.get b).pair with
  | none => rfl
  | some p =>
    rw [Sequencer.pairHolds, hp, ho] at hpairs
    cases o <;> simp_all

/-- The READ ends with a result, or fails, and then its bank is free. -/
theorem State.Holds.clearRead (h : s.Holds) (ho : (s.banks.get b).operation = some (.portRead a)) (hgone : s.Gone a.port a.ref)
    (first : (s.banks.get b).pairIn .second = none) : (s.clearOperation b).Holds :=
  h.clearOperation ho rfl rfl (fun _ _ hc => by cases hc; exact hgone) first

/-- A faulted READ whose recovery finds room at the partner bank (R84). -/
def State.recoverRead (s : State) (b : Bank) (a : PortAccess) (e : QueueEntry) : State :=
  ((s.clearOperation b).appendRecovery b e.address e.length a.port e.ref).updateEntry a.port e.ref
    fun x => { x with state := .recovering }

theorem State.recoverRead_mirror (e : QueueEntry) (c : Bank) : (s.recoverRead b a e).mirrors.get c =
    if c = partnerBank b then { s.mirrors.get c with entries := (s.mirrors.get c).entries
      ++ [⟨.recoveryRead a.port e.ref, partnerAddress s.commit.active.geometry e.address, e.length, false⟩] }
    else s.mirrors.get c := by
  show (s.mirrors.set (partnerBank b) _).get c = _
  rw [PerBank.get_set]
  split
  · rename_i hc
    rw [hc]
    rfl
  · rfl

theorem State.recoverRead_performed (e : QueueEntry) (c : Bank) :
    ((s.recoverRead b a e).mirrors.get c).performed = (s.mirrors.get c).performed := by
  rw [State.recoverRead_mirror]
  split <;> simp [Backlog.performed]

/-- A request that is not RECOVERING has no RECOVERY-READ, unless a performed one has outlived it. -/
theorem State.WorkHolds.recoveryCount_eq_zero (h : s.WorkHolds) {n : PortId} {e : QueueEntry} (he : e ∈ s.queues.get n)
    (hs : e.state ≠ .recovering) (c : Bank) : (s.mirrors.get c).recoveryCount n e.ref = 0 := by
  rw [Backlog.recoveryCount, List.length_eq_zero_iff, List.filter_eq_nil_iff]
  intro x hx hwork
  exact hs ((h.recovers c x hx n e.ref (of_decide_eq_true hwork)).entry e he rfl).1

theorem State.WorkHolds.recoverRead (h : s.WorkHolds) (hl : s.ListsHold)
    (ho : (s.banks.get b).operation = some (.portRead a)) {e : QueueEntry} (he : e ∈ s.queues.get a.port)
    (href : e.ref = a.ref) (hm : e.mirror = true) : (s.recoverRead b a e).WorkHolds := by
  have hpair : (s.banks.get b).pair = none := h.pair_eq_none ho nofun nofun
  obtain ⟨hfresh, -, hentry⟩ := h.claims b _ _ _ (Sequencer.claims_read ho)
  obtain ⟨hslot, hread, hbank, -, -, -⟩ := hentry e he href
  have hmem {m : PortId} {x : QueueEntry} (hx : x ∈ (s.recoverRead b a e).queues.get m) :
      (m = a.port ∧ x = { e with state := .recovering }) ∨ (x ∈ s.queues.get m ∧ (m = a.port → x.ref ≠ e.ref)) :=
    State.mem_updateEntry (s := (s.clearOperation b).appendRecovery b e.address e.length a.port e.ref) hl.tied hl.refs he hx
  have hself : (s.recoverRead b a e).banks.get b = { s.banks.get b with operation := none } := PerBank.get_set_self _ b _
  have hothers (c : Bank) (hc : c ≠ b) : (s.recoverRead b a e).banks.get c = s.banks.get c := PerBank.get_set_of_ne _ hc _
  constructor
  · intro c
    by_cases hc : c = b
    · subst hc
      simp only [hself, Sequencer.pairHolds, hpair]
    · rw [hothers c hc]
      exact h.pairs c
  · intro c a' state work hclaim
    by_cases hc : c = b
    · subst hc
      rw [hself] at hclaim
      exact absurd hclaim (Sequencer.not_claims (by exact nofun) (by exact hpair))
    · rw [hothers c hc] at hclaim
      have hs := h.claims c a' state work hclaim
      refine hs.of_tasks le_rfl rfl fun x hx hxref => ?_
      rcases hmem hx with ⟨hn, rfl⟩ | ⟨hx, -⟩
      · have hc' := (hs.2.2 e (hn ▸ he) hxref).2.2.1
        exact absurd (hc'.symm.trans hbank) hc
      · exact ⟨x, hx, .refl x⟩
  · intro m x hx hstate
    rcases hmem hx with ⟨-, rfl⟩ | ⟨hx, hne⟩
    · rcases hstate with hstate | hstate <;> cases hstate
    · have hc : x.bank ≠ b := by
        intro hxb
        rcases hstate with hstate | hstate
        · obtain ⟨a', work, hclaim, hport, hxref⟩ := h.request_of_inSlot ho hx hxb hstate
          cases hclaim
          exact hne hport.symm (hxref.symm.trans href.symm)
        · obtain ⟨a', work, ⟨hslot', -⟩ | ⟨-, p, hp, -⟩, -⟩ := h.granted m x hx (.inr hstate)
          · rw [hstate] at hslot'
            cases hslot'
          · rw [hxb, hpair] at hp
            cases hp
      rw [hothers _ hc]
      exact h.granted m x hx hstate
  · intro c x hx n ref hwork
    have hold (hx : x ∈ (s.mirrors.get c).entries) : (s.recoverRead b a e).Recovers c x n ref := by
      have hs := h.recovers c x hx n ref hwork
      refine hs.of_tasks le_rfl rfl (fun y hy hyref => ?_) fun hperf => ?_
      · rcases hmem hy with ⟨hn, rfl⟩ | ⟨hy, -⟩
        · have hrecovering := (hs.entry e (hn ▸ he) hyref).1
          rw [hslot] at hrecovering
          cases hrecovering
        · exact ⟨y, hy, .refl y⟩
      · obtain ⟨y, hy, rfl⟩ := hs.queued hperf
        exact State.exists_updateEntry (s := (s.clearOperation b).appendRecovery b e.address e.length a.port e.ref)
          (f := fun x => { x with state := .recovering }) (fun _ => rfl) e.ref hy
    rw [State.recoverRead_mirror] at hx
    split at hx
    · rename_i hc
      rcases List.mem_append.mp hx with hx | hx
      · exact hold hx
      · rw [List.mem_singleton] at hx
        subst hx
        cases hwork
        refine ⟨href ▸ hfresh, fun y hy hyref => ?_, fun _ => ?_⟩
        · rcases hmem hy with ⟨-, rfl⟩ | ⟨-, hne⟩
          · exact ⟨rfl, by rw [hc, partnerBank_partnerBank]; exact hbank, rfl, rfl⟩
          · exact absurd hyref (hne rfl)
        · exact State.exists_updateEntry (s := (s.clearOperation b).appendRecovery b e.address e.length a.port e.ref)
            (f := fun x => { x with state := .recovering }) (fun _ => rfl) e.ref he
    · exact hold hx
  · intro m x hx hstate
    rcases hmem hx with ⟨rfl, rfl⟩ | ⟨hx, hne⟩
    · refine ⟨hread, hm, ?_⟩
      have hzero := h.recoveryCount_eq_zero he (by rw [hslot]; nofun) (partnerBank b)
      rw [Backlog.recoveryCount] at hzero
      rw [Backlog.recoveryCount, State.recoverRead_mirror]
      dsimp only
      rw [hbank, if_pos rfl]
      simp [List.filter_append, hzero]
    · obtain ⟨hxread, hxm, hcount⟩ := h.recovering m x hx hstate
      refine ⟨hxread, hxm, ?_⟩
      rw [Backlog.recoveryCount, State.recoverRead_mirror]
      split
      · have hother : ¬ (a.port = m ∧ e.ref = x.ref) := fun heq => hne heq.1.symm heq.2.symm
        simpa [List.filter_append, hother, Backlog.recoveryCount] using hcount
      · exact hcount
  · intro c
    have hperformed := State.recoverRead_performed (s := s) (b := b) (a := a) e c
    by_cases hc : c = b
    · subst hc
      refine .none (hperformed.trans ((h.marked c).performed_nil fun o hx => ?_)) fun o hx => ?_
      · rw [ho] at hx
        cases hx
        rfl
      · rw [hself] at hx
        cases hx
    · exact (h.marked c).congr (by rw [hothers c hc]) hperformed rfl

theorem State.ListsHold.recoverRead (h : s.ListsHold) (e : QueueEntry) : (s.recoverRead b a e).ListsHold :=
  State.ListsHold.updateEntry (f := fun x => { x with state := .recovering })
    (h.congr (t := (s.clearOperation b).appendRecovery b e.address e.length a.port e.ref) rfl rfl rfl)
    (fun _ => rfl) (fun _ => rfl) _ _

theorem State.PlacesHold.recoverRead (h : s.PlacesHold) (ho : (s.banks.get b).operation = some (.portRead a))
    (hroom : (s.mirrors.get (partnerBank b)).hasRoom = true) (e : QueueEntry) : (s.recoverRead b a e).PlacesHold := by
  constructor
  · intro c
    rw [State.recoverRead_mirror]
    split
    · rename_i hc
      have hlt := (Backlog.hasRoom_iff _).mp hroom
      rw [← hc] at hlt
      simp only [Backlog.occupancy, Config.backlogCapacity, List.length_append, List.length_singleton]
      omega
    · exact h.room c
  · intro c
    have hreservations := (h.clearOperation ho rfl).reservations c
    rw [State.recoverRead_mirror]
    split <;> exact hreservations

theorem State.Holds.endRead (h : s.Holds) (ho : (s.banks.get b).operation = some (.portRead a))
    (first : (s.banks.get b).pairIn .second = none) : (s.endRead b a).Holds := by
  have hawait := h.work.notAwaited_of_claims (Sequencer.claims_read ho)
  cases hfind : s.findEntry a.port a.ref with
  | none =>
    rw [State.endRead_of_detached hfind]
    exact h.clearRead ho (State.gone_of_findEntry_none hfind) first
  | some e =>
    have href : e.ref = a.ref := s.ref_of_findEntry hfind
    have he : e ∈ s.queues.get a.port := List.mem_of_find?_eq_some hfind
    have hfail (kind : FaultKind) (position : Nat) :
        ((s.clearOperation b).failEntry a.port e .dataFault kind position).Holds :=
      (h.failEntry (e := e) (href ▸ hawait) .dataFault kind position).clearRead ho
        (href ▸ State.finishEntry_gone _ _ _) first
    cases hparity : s.memory.parityFault (s.place b a.offset) a.length with
    | false =>
      rw [State.endRead_of_good hfind hparity]
      exact (h.finishEntry hawait _).clearRead ho (State.finishEntry_gone _ _ _) first
    | true =>
      rw [State.endRead_of_faulty hfind hparity]
      cases hm : e.mirror with
      | false =>
        rw [State.faultedRead_of_unmirrored hm]
        exact hfail .dataFault _
      | true =>
        cases hroom : (s.mirrors.get (partnerBank b)).hasRoom with
        | false =>
          rw [State.faultedRead_of_full hm (by exact hroom)]
          exact hfail .recoveryDropped _
        | true =>
          rw [State.faultedRead_of_room hm (by exact hroom)]
          exact h.of_result ⟨_, Sequencer.endsAs_clear first, rfl⟩ ⟨rfl, rfl, rfl, rfl, rfl⟩
            ⟨h.lists.recoverRead e, h.places.recoverRead ho hroom e, h.work.recoverRead h.lists ho he href hm⟩ h.faults h.memory

/-! ### WRITE_COMPLETE (R62, R77) -/

/-- The work of a bank that may have owed one reservation is done. The reservation is given up, and its place goes to a copy (R77) or is freed
(R78). -/
theorem State.PlacesHold.resolve {t : State} (h : s.PlacesHold) {q : Sequencer} {l : Backlog} (hq : q.owes = 0)
    (howes : (s.banks.get b).owes = if a.mirror then 1 else 0) (hbanks : t.banks = s.banks.set b q)
    (hmirrors : t.mirrors = if a.mirror then s.mirrors.set (partnerBank b) l else s.mirrors)
    (hreservations : l.reservations = (s.mirrors.get (partnerBank b)).reservations - 1)
    (hplaces : 0 < (s.mirrors.get (partnerBank b)).reservations → l.occupancy + l.freed
      = (s.mirrors.get (partnerBank b)).occupancy + (s.mirrors.get (partnerBank b)).freed) : t.PlacesHold := by
  have hbank := h.reservations b
  rw [howes] at hbank
  have hset (c : Bank) : (t.banks.get c).owes = if c = b then 0 else (s.banks.get c).owes := by
    rw [hbanks, PerBank.get_set]
    split <;> simp [hq]
  have hmirror (c : Bank) : t.mirrors.get c = if a.mirror = true ∧ c = partnerBank b then l else s.mirrors.get c := by
    rw [hmirrors]
    cases a.mirror <;> simp [PerBank.get_set]
  constructor
  · intro c
    rw [hmirror]
    split
    · rename_i hc
      rw [hplaces (by rw [hbank, if_pos hc.1]; exact Nat.one_pos)]
      exact h.room (partnerBank b)
    · exact h.room c
  · intro c
    have hiff : partnerBank c = partnerBank b ↔ c = b := ⟨partnerBank_injective, fun hc => by rw [hc]⟩
    simp only [hmirror, hset, hiff]
    cases hm : a.mirror <;> by_cases hc : c = b
    · simp [hc, hbank, hm]
    · simp [hc, h.reservations c]
    · simp [hc, hreservations, hbank, hm]
    · simp [hc, h.reservations c]

theorem State.PlacesHold.primaryWrite (h : s.PlacesHold) {q : Sequencer} (hq : q.owes = 0)
    (howes : (s.banks.get b).owes = if a.mirror then 1 else 0) (beats : List WriteBeat) :
    ((s.setSequencer b q).primaryWrite b a beats).PlacesHold := by
  rw [State.primaryWrite_eq]
  refine h.resolve hq howes rfl rfl rfl fun hpos => ?_
  simp only [Backlog.occupancy, State.setSequencer_mirrors, List.length_append, List.length_singleton]
  omega

/-- A copy appended at the partner bank is neither a RECOVERY-READ nor being performed. -/
theorem State.WorkHolds.primaryWrite (h : s.WorkHolds) (beats : List WriteBeat) : (s.primaryWrite b a beats).WorkHolds := by
  have hentries (c : Bank) : ((s.primaryWrite b a beats).mirrors.get c).entries = (s.mirrors.get c).entries
      ∨ ∃ x : BacklogEntry, ((s.primaryWrite b a beats).mirrors.get c).entries = (s.mirrors.get c).entries ++ [x]
        ∧ x.work = .secondaryWrite beats ∧ x.performing = false := by
    rw [State.primaryWrite_eq]
    dsimp only
    split
    · rw [PerBank.get_set]
      split
      · rename_i hc
        rw [hc]
        exact .inr ⟨_, rfl, rfl, rfl⟩
      · exact .inl rfl
    · exact .inl rfl
  have hbanks := State.primaryWrite_banks s b a beats
  have hcommit := (State.primaryWrite_frame s b a beats).commit
  refine h.of_bank b (State.primaryWrite_queues s b a beats) (State.primaryWrite_frame s b a beats).nextRef (by rw [hcommit])
    (fun c _ => by rw [hbanks]) (by rw [hbanks]; exact h.pairs b) (by rw [hbanks]; exact h.claims b) ?_ ?_ ?_ ?_
  · rw [hbanks]
    exact fun n e he hb hstate => hb ▸ h.granted n e he hstate
  · intro c y hy n ref hwork
    rcases hentries c with heq | ⟨x, heq, hx, -⟩
    · exact ⟨y, heq ▸ hy, hwork, rfl, rfl, id⟩
    · rw [heq, List.mem_append, List.mem_singleton] at hy
      rcases hy with hy | rfl
      · exact ⟨y, hy, hwork, rfl, rfl, id⟩
      · rw [hx] at hwork
        cases hwork
  · intro c n e _ _
    rw [Backlog.recoveryCount, Backlog.recoveryCount]
    rcases hentries c with heq | ⟨x, heq, hx, -⟩
    · rw [heq]
    · simp [heq, hx]
  · intro c
    refine (h.marked c).congr (by rw [hbanks]) ?_ (by rw [hcommit])
    rw [Backlog.performed, Backlog.performed]
    rcases hentries c with heq | ⟨x, heq, -, hx⟩
    · rw [heq]
    · simp [heq, hx]

theorem State.Holds.primaryWrite (h : s.Holds) {q : Sequencer} (hq : q.owes = 0)
    (howes : (s.banks.get b).owes = if a.mirror then 1 else 0) (hends : (s.banks.get b).EndsAs q)
    (hw : (s.setSequencer b q).WorkHolds) (beats : List WriteBeat) : ((s.setSequencer b q).primaryWrite b a beats).Holds := by
  have hframe := State.primaryWrite_frame (s.setSequencer b q) b a beats
  refine h.of_result ⟨q, hends, State.primaryWrite_banks _ b a beats⟩ ⟨hframe.1, hframe.2, hframe.3, hframe.4, hframe.5⟩
    ⟨?_, h.places.primaryWrite hq howes beats, hw.primaryWrite beats⟩ ?_ ?_
  · rw [State.primaryWrite_eq]
    exact h.lists.congr rfl rfl rfl
  · rw [State.primaryWrite_eq]
    exact h.faults
  · rw [State.primaryWrite_eq]
    exact Memory.wf_writeBeats _ _ h.memory

/-- The end of a request and the write of its beats touch different parts of the state. -/
theorem State.finishAccess_primaryWrite (q : Sequencer) (beats : List WriteBeat) (r : CompletionResult) :
    ((s.setSequencer b q).primaryWrite b a beats).finishAccess a r
      = ((s.finishAccess a r).setSequencer b q).primaryWrite b a beats := by
  have hfind : ((s.setSequencer b q).primaryWrite b a beats).findEntry a.port a.ref = s.findEntry a.port a.ref := by
    rw [State.primaryWrite_eq]
    rfl
  rw [State.finishAccess_eq, State.finishAccess_eq, hfind, State.primaryWrite_eq, State.primaryWrite_eq]
  rfl

theorem State.Holds.endWrite (h : s.Holds) {beats : List WriteBeat}
    (ho : (s.banks.get b).operation = some (.portWrite a beats)) (first : (s.banks.get b).pairIn .second = none) :
    (s.endWrite b a beats).Holds := by
  have hpair : (s.banks.get b).pair = none := h.work.pair_eq_none ho nofun nofun
  have hdone := h.finishAccess (Sequencer.claims_write ho) (bareResult .ok)
  have hbanks := State.finishAccess_banks s a (bareResult .ok)
  rw [State.endWrite, State.clearOperation, State.finishAccess_primaryWrite]
  have hwork : ((s.finishAccess a (bareResult .ok)).clearOperation b).WorkHolds :=
    hdone.work.clearOperation (by rw [hbanks]; exact ho) rfl fun _ _ hc => by cases hc; exact State.finishAccess_gone a _
  rw [State.clearOperation, hbanks] at hwork
  refine hdone.primaryWrite ?_ ?_ ?_ hwork beats
  · rw [Sequencer.owes_of_no_pair (by exact hpair)]
    rfl
  · rw [hbanks, Sequencer.owes_of_no_pair hpair, ho]
    rfl
  · rw [hbanks]
    exact Sequencer.endsAs_clear first

end

end Sys2Proof.Machine
end

section
/-! SUPPORT. The slot ends of an atomic's pair and of the backlog's operations keep the invariant (R45 to R47, R80, R86, R87), and so does the
end of every result of a slot. -/

namespace Sys2Proof.Machine

section
variable {s : State} {b : Bank}

/-! ### ATOMIC_READ_COMPLETE (R45, R47) -/

theorem State.Holds.reportFailedAtomic (h : s.Holds) (a : PortAccess) (r : AtomicResult) : (s.reportFailedAtomic a r).Holds := by
  unfold State.reportFailedAtomic
  split
  · exact h.report _
  · exact h
  · exact h

/-- A change of one entry that leaves its task as it is. -/
theorem State.WorkHolds.updateTask (h : s.WorkHolds) {f : QueueEntry → QueueEntry} (hf : ∀ x, (f x).SameTask x) (n : PortId)
    (ref : Nat) : (s.updateEntry n ref f).WorkHolds := by
  refine h.of_queues (fun _ => rfl) (fun _ => rfl) rfl le_rfl (fun _ => rfl) (fun m e he => .inr ?_) ?_
  · rw [State.updateEntry_eq_of_ref, PerPort.get_set] at he
    split at he
    · rename_i hm
      obtain ⟨x, hx, rfl⟩ := List.mem_map.mp he
      refine ⟨x, hm ▸ hx, ?_⟩
      split
      · exact hf x
      · exact .refl x
    · exact ⟨e, he, .refl e⟩
  · rintro - - - - m - - ⟨e, he, rfl⟩
    exact State.exists_updateEntry (fun x => (hf x).ref) ref he

/-- The sequencer after the read of an atomic's first slot: the pair keeps the outcome (R45). -/
def Sequencer.keepOutcome (q : Sequencer) (p : AtomicPair) (r : AtomicResult) : Sequencer :=
  { q with operation := none, pair := some { p with result := some r } }

theorem State.WorkHolds.keepOutcome (h : s.WorkHolds) {a : PortAccess} {p : AtomicPair}
    (ho : (s.banks.get b).operation = some (.atomicRead a)) (hp : (s.banks.get b).pair = some p) (r : AtomicResult) :
    (s.setSequencer b ((s.banks.get b).keepOutcome p r)).WorkHolds := by
  refine h.setSequencer (fun o hx => by rw [ho] at hx; cases hx; rfl) rfl ?_ ?_ nofun
  · rintro a' state work (⟨-, o, hx, -⟩ | ⟨rfl, p', hp', rfl, rfl⟩)
    · cases hx
    · cases hp'
      exact h.claims b p.access _ _ (Sequencer.claims_pair hp)
  · rintro n e he hb (hstate | hstate)
    · obtain ⟨a', work, hclaim, -⟩ := h.request_of_inSlot ho he hb hstate
      cases hclaim
    · obtain ⟨hport, href⟩ := h.request_of_linked hp he hb hstate
      exact ⟨p.access, _, .inr ⟨hstate, _, rfl, rfl, rfl⟩, hport, href⟩

theorem State.Holds.endAtomicRead (h : s.Holds) {a : PortAccess} {p : AtomicPair}
    (ho : (s.banks.get b).operation = some (.atomicRead a)) (hp : (s.banks.get b).pair = some p) (hslot : p.slot = .first) :
    (s.endAtomicRead b p).Holds := by
  have hready : (s.setSequencer b ((s.banks.get b).keepOutcome p (s.atomicOutcome b p))).Holds := by
    refine h.of_result ⟨_, ⟨rfl, ?_, ?_⟩, rfl⟩ ⟨rfl, rfl, rfl, rfl, rfl⟩
      ⟨h.lists.congr rfl rfl rfl, h.places.setSequencer ?_, h.work.keepOutcome ho hp _⟩ h.faults h.memory
    · rw [Sequencer.pairIn_eq_none_iff]
      rintro r hr
      cases hr
      simp [hslot]
    · rintro r hr
      cases hr
      exact ⟨p, hp, rfl, rfl⟩
    · simp only [Sequencer.owes, Sequencer.keepOutcome, hp, ho, Option.map_some, Option.map_none, Option.getD_some,
        Option.getD_none, Operation.owes]
  have hreported := hready.reportFailedAtomic p.access (s.atomicOutcome b p)
  exact ⟨State.ListsHold.updateEntry (f := fun e => { e with atomicResult := some (s.atomicOutcome b p) }) hreported.lists
      (fun _ => rfl) (fun _ => rfl) _ _, hreported.places.congr rfl rfl,
    hreported.work.updateTask (f := fun e => { e with atomicResult := some (s.atomicOutcome b p) }) (fun x => ⟨rfl, rfl, rfl, rfl, rfl, rfl, rfl⟩) _ _, hreported.control.congr rfl rfl rfl rfl,
    hreported.grid.congr rfl rfl rfl rfl, hreported.faults, hreported.captures, hreported.memory⟩

/-! ### ATOMIC_PAIR_END (R46, R47, R78) -/

/-- A bank after an atomic: free. -/
def Sequencer.freed (q : Sequencer) : Sequencer := { q with operation := none, pair := none }

theorem Sequencer.endsAs_freed (q : Sequencer) : q.EndsAs q.freed := ⟨rfl, rfl, nofun⟩

/-- In the second slot of its pair a bank performs nothing for any other request. -/
theorem State.WorkHolds.operation_of_second (h : s.WorkHolds) {p : AtomicPair} (hp : (s.banks.get b).pair = some p)
    (hslot : p.slot = .second) {o : Operation} (ho : (s.banks.get b).operation = some o) : ∃ a v, o = .atomicWrite a v := by
  have hpairs := h.pairs b
  rw [Sequencer.pairHolds, hp, ho] at hpairs
  cases o <;> simp_all

theorem State.WorkHolds.freed (h : s.WorkHolds) {p : AtomicPair} (hp : (s.banks.get b).pair = some p)
    (hslot : p.slot = .second) (hgone : s.Gone p.access.port p.access.ref) :
    (s.setSequencer b (s.banks.get b).freed).WorkHolds := by
  refine h.setSequencer (fun o ho => ?_) rfl (fun _ _ _ hclaim => absurd hclaim (Sequencer.not_claims (fun _ ho => by cases ho) rfl)) ?_ nofun
  · obtain ⟨a, v, rfl⟩ := h.operation_of_second hp hslot ho
    rfl
  · rintro n e he hb (hstate | hstate)
    · obtain ⟨a, work, ⟨-, o, ho, hc⟩ | ⟨hlinked, -⟩, -⟩ := h.granted n e he (.inl hstate)
      · obtain ⟨a', v, rfl⟩ := h.operation_of_second hp hslot (hb ▸ ho)
        cases hc
      · rw [hstate] at hlinked
        cases hlinked
    · obtain ⟨rfl, href⟩ := h.request_of_linked hp he hb hstate
      exact absurd href.symm (hgone e he)

theorem State.WorkHolds.owes_of_second (h : s.WorkHolds) {p : AtomicPair} (hp : (s.banks.get b).pair = some p)
    (hslot : p.slot = .second) : (s.banks.get b).owes = if p.access.mirror then 1 else 0 := by
  refine Sequencer.owes_of_pair ?_ hp
  cases ho : (s.banks.get b).operation with
  | none => rfl
  | some o =>
    obtain ⟨a, v, rfl⟩ := h.operation_of_second hp hslot ho
    rfl

/-- The reservation of a failed atomic is released: its place is free from the next slot start on (R78). -/
def State.releaseFor (s : State) (b : Bank) (a : PortAccess) : State := if a.mirror then s.release (partnerBank b) else s

theorem State.releaseFor_eq (s : State) (b : Bank) (a : PortAccess) : s.releaseFor b a = { s with
    mirrors := if a.mirror then s.mirrors.set (partnerBank b) { s.mirrors.get (partnerBank b) with
      reservations := (s.mirrors.get (partnerBank b)).reservations - 1
      freed := (s.mirrors.get (partnerBank b)).freed + 1 } else s.mirrors } := by
  cases h : a.mirror <;> simp only [State.releaseFor, h] <;> rfl

theorem State.releaseFor_entries (a : PortAccess) (c : Bank) :
    ((s.releaseFor b a).mirrors.get c).entries = (s.mirrors.get c).entries := by
  rw [State.releaseFor_eq]
  dsimp only
  split
  · rw [PerBank.get_set]
    split
    · rename_i hc
      rw [hc]
    · rfl
  · rfl

theorem State.PlacesHold.releaseFor (h : s.PlacesHold) {a : PortAccess} {q : Sequencer} (hq : q.owes = 0)
    (howes : (s.banks.get b).owes = if a.mirror then 1 else 0) : ((s.setSequencer b q).releaseFor b a).PlacesHold := by
  rw [State.releaseFor_eq]
  refine h.resolve hq howes rfl rfl rfl fun hpos => ?_
  simp only [Backlog.occupancy, State.setSequencer_mirrors]
  omega

theorem State.finishAccess_releaseFor (q : Sequencer) (a : PortAccess) (r : CompletionResult) :
    ((s.setSequencer b q).releaseFor b a).finishAccess a r = ((s.finishAccess a r).setSequencer b q).releaseFor b a := by
  have hfind : ((s.setSequencer b q).releaseFor b a).findEntry a.port a.ref = s.findEntry a.port a.ref := by
    rw [State.releaseFor_eq]
    rfl
  rw [State.finishAccess_eq, State.finishAccess_eq, hfind, State.releaseFor_eq, State.releaseFor_eq]
  rfl

theorem State.endPair_cases (s : State) (b : Bank) (p : AtomicPair) :
    (∃ beats r, s.endPair b p = ((s.finishAccess p.access r).setSequencer b (s.banks.get b).freed).primaryWrite b p.access beats)
    ∨ ∃ r, s.endPair b p = ((s.finishAccess p.access r).setSequencer b (s.banks.get b).freed).releaseFor b p.access := by
  unfold State.endPair
  dsimp only
  split
  · exact .inl ⟨_, _, State.finishAccess_primaryWrite _ _ _⟩
  · exact .inr ⟨_, State.finishAccess_releaseFor _ _ _⟩
  · exact .inr ⟨_, State.finishAccess_releaseFor _ _ _⟩

theorem State.Holds.endPair (h : s.Holds) {p : AtomicPair} (hp : (s.banks.get b).pair = some p) (hslot : p.slot = .second) :
    (s.endPair b p).Holds := by
  have hdone (r : CompletionResult) := h.finishAccess (Sequencer.claims_pair hp) r
  have hbanks (r : CompletionResult) : (s.finishAccess p.access r).banks = s.banks := State.finishAccess_banks s p.access r
  have hwork (r : CompletionResult) : ((s.finishAccess p.access r).setSequencer b (s.banks.get b).freed).WorkHolds := by
    have hfreed := (hdone r).work.freed (by rw [hbanks]; exact hp) hslot (State.finishAccess_gone _ r)
    rwa [hbanks] at hfreed
  have howes := h.work.owes_of_second hp hslot
  rcases s.endPair_cases b p with ⟨beats, r, heq⟩ | ⟨r, heq⟩ <;> rw [heq]
  · exact (hdone r).primaryWrite rfl (by rw [hbanks]; exact howes) (by rw [hbanks]; exact Sequencer.endsAs_freed _) (hwork r) beats
  · have hplaces := (hdone r).places.releaseFor (q := (s.banks.get b).freed) rfl (by rw [hbanks]; exact howes)
    have hreleased := (hwork r).of_queues
      (t := ((s.finishAccess p.access r).setSequencer b (s.banks.get b).freed).releaseFor b p.access)
      (fun _ => by rw [State.releaseFor_eq]) (fun _ => by rw [State.releaseFor_eq]) (by rw [State.releaseFor_eq])
      (by rw [State.releaseFor_eq]) (State.releaseFor_entries p.access) (fun n e he => .inr ⟨e, by
        rw [State.releaseFor_eq] at he
        exact he, .refl e⟩) (fun _ _ _ _ _ _ _ hex => by rwa [State.releaseFor_eq])
    refine (hdone r).of_result ⟨_, by rw [hbanks]; exact Sequencer.endsAs_freed _, by rw [State.releaseFor_eq]; rfl⟩ ?_
      ⟨?_, hplaces, hreleased⟩ ?_ ?_ <;> rw [State.releaseFor_eq]
    · exact ⟨rfl, rfl, rfl, rfl, rfl⟩
    · exact (hdone r).lists.congr rfl rfl rfl
    · exact (hdone r).faults
    · exact (hdone r).memory

/-! ### SECONDARY_WRITE_COMPLETE and RECOVERY_READ_COMPLETE (R80, R86, R87) -/

/-- A bank has performed a backlog entry: it is free, and the entry has left the backlog (R80). -/
def State.performedEnd (s : State) (b : Bank) : State := (s.clearOperation b).removePerformed b

theorem State.performedEnd_mirror (c : Bank) : (s.performedEnd b).mirrors.get c =
    if c = b then { s.mirrors.get c with entries := (s.mirrors.get c).entries.filter fun x => !x.performing }
    else s.mirrors.get c := by
  show (s.mirrors.set b _).get c = _
  rw [PerBank.get_set]
  split
  · rename_i hc
    rw [hc]
    rfl
  · rfl

/-- The marked entry of a bank is the one of its operation (R33). -/
theorem State.Marked.exists_performed (h : s.Marked b) {o : Operation} (ho : (s.banks.get b).operation = some o)
    (hkind : o.ofBacklog = true) : ∃ x, (s.mirrors.get b).performed = [x] ∧ o = x.operation (s.presentedOffset b x.address) := by
  rcases h with ⟨-, hop⟩ | ⟨x, hperformed, hop⟩
  · rw [hop o ho] at hkind
    cases hkind
  · rw [ho] at hop
    exact ⟨x, hperformed, Option.some.inj hop⟩

theorem Backlog.mem_performed {l : Backlog} {x : BacklogEntry} : x ∈ l.performed ↔ x ∈ l.entries ∧ x.performing = true :=
  List.mem_filter

theorem State.WorkHolds.pair_of_ofBacklog (h : s.WorkHolds) {o : Operation} (ho : (s.banks.get b).operation = some o)
    (hkind : o.ofBacklog = true) : (s.banks.get b).pair = none :=
  h.pair_eq_none ho (fun _ heq => by rw [heq] at hkind; cases hkind) fun _ _ heq => by rw [heq] at hkind; cases hkind

theorem State.WorkHolds.performedEnd (h : s.WorkHolds) {o : Operation} (ho : (s.banks.get b).operation = some o)
    (hkind : o.ofBacklog = true) (hgone : ∀ offset length n ref, o = .recoveryRead offset length n ref → s.Gone n ref) :
    (s.performedEnd b).WorkHolds := by
  have hpair := h.pair_of_ofBacklog ho hkind
  have hself : (s.performedEnd b).banks.get b = { s.banks.get b with operation := none } := PerBank.get_set_self _ b _
  have hothers (c : Bank) (hc : c ≠ b) : (s.performedEnd b).banks.get c = s.banks.get c := PerBank.get_set_of_ne _ hc _
  obtain ⟨x, hperformed, hop⟩ := (h.marked b).exists_performed ho hkind
  refine h.of_bank b rfl rfl rfl hothers ?_ ?_ ?_ ?_ ?_ ?_
  · simp only [hself, Sequencer.pairHolds, hpair]
  · rw [hself]
    exact fun _ _ _ hclaim => absurd hclaim (Sequencer.not_claims (by exact nofun) (by exact hpair))
  · refine fun n e he hb hstate => absurd hstate (h.not_granted (fun o' ho' => ?_) hpair he hb)
    rw [ho] at ho'
    cases ho'
    exact Operation.claim_of_ofBacklog hkind
  · intro c y hy n ref hwork
    refine ⟨y, ?_, hwork, rfl, rfl, id⟩
    rw [State.performedEnd_mirror] at hy
    split at hy
    · exact (List.mem_filter.mp hy).1
    · exact hy
  · intro c n e he _
    rw [Backlog.recoveryCount, State.performedEnd_mirror]
    split
    · rename_i hc
      subst hc
      rw [Backlog.recoveryCount, List.filter_filter]
      congr 1
      refine List.filter_congr fun y hy => ?_
      cases hperf : y.performing with
      | false => simp
      | true =>
        have hyx : y = x := List.mem_singleton.mp (hperformed ▸ Backlog.mem_performed.mpr ⟨hy, hperf⟩)
        have hne : y.work ≠ .recoveryRead n e.ref := fun hwork =>
          hgone _ _ n e.ref (by rw [hop, BacklogEntry.operation, ← hyx, hwork]) e he rfl
        simp [hne]
    · rfl
  · intro c
    by_cases hc : c = b
    · subst hc
      refine .none ?_ ?_
      · simp [Backlog.performed, State.performedEnd_mirror]
      · rw [hself]
        exact nofun
    · exact (h.marked c).congr (by rw [hothers c hc]) (by rw [State.performedEnd_mirror, if_neg hc]) rfl

theorem State.PlacesHold.performedEnd (h : s.PlacesHold) {o : Operation} (ho : (s.banks.get b).operation = some o)
    (hkind : o.ofBacklog = true) : (s.performedEnd b).PlacesHold := by
  constructor
  · intro c
    have hroom := h.room c
    rw [State.performedEnd_mirror]
    split
    · have hle := List.length_filter_le (fun x : BacklogEntry => !x.performing) (s.mirrors.get c).entries
      simp only [Backlog.occupancy] at hroom ⊢
      omega
    · exact hroom
  · intro c
    have hreservations := (h.clearOperation ho (Operation.owes_of_ofBacklog hkind)).reservations c
    rw [State.performedEnd_mirror]
    split <;> exact hreservations

theorem State.Holds.performedEnd (h : s.Holds) {o : Operation} (ho : (s.banks.get b).operation = some o)
    (hkind : o.ofBacklog = true) (hgone : ∀ offset length n ref, o = .recoveryRead offset length n ref → s.Gone n ref)
    (first : (s.banks.get b).pairIn .second = none) {m : Memory} (hm : m.wf = true) :
    ((s.performedEnd b).setMemory m).Holds :=
  h.of_result ⟨_, Sequencer.endsAs_clear first, rfl⟩ ⟨rfl, rfl, rfl, rfl, rfl⟩
    ⟨h.lists.congr rfl rfl rfl, (h.places.performedEnd ho hkind).congr rfl rfl,
      (h.work.performedEnd ho hkind hgone).congr rfl rfl (fun _ => rfl) (fun _ => rfl) rfl rfl⟩ h.faults hm

theorem State.Holds.endSecondary (h : s.Holds) {offset : Nat} {beats : List WriteBeat}
    (ho : (s.banks.get b).operation = some (.secondaryWrite offset beats)) (first : (s.banks.get b).pairIn .second = none) :
    (s.endSecondary b offset beats).Holds :=
  h.performedEnd ho rfl nofun first (Memory.wf_writeBeats _ _ h.memory)

/-- The RECOVERY-READ that a bank performs is the only one of its request (R63). -/
theorem State.WorkHolds.notAwaited_of_recovery (h : s.WorkHolds) {offset length : Nat} {n : PortId} {ref : Nat}
    (ho : (s.banks.get b).operation = some (.recoveryRead offset length n ref)) : s.NotAwaited n ref := by
  cases hfind : s.findEntry n ref with
  | none => exact h.notAwaited_of_detached hfind
  | some e =>
    have href : e.ref = ref := s.ref_of_findEntry hfind
    have he : e ∈ s.queues.get n := List.mem_of_find?_eq_some hfind
    obtain ⟨x, hperformed, hop⟩ := (h.marked b).exists_performed ho rfl
    obtain ⟨hx, hperf⟩ := Backlog.mem_performed.mp (hperformed ▸ List.mem_singleton_self x)
    have hxwork : x.work = .recoveryRead n ref := by
      cases hw : x.work <;> rw [BacklogEntry.operation, hw] at hop <;> cases hop
      rfl
    obtain ⟨hstate, hbank, -⟩ := (h.recovers b x hx n ref hxwork).entry e he href
    intro c y hy hwork
    obtain ⟨-, hbank', -⟩ := (h.recovers c y hy n ref hwork).entry e he href
    obtain rfl : c = b := partnerBank_injective (hbank'.symm.trans hbank)
    obtain ⟨-, -, hcount⟩ := h.recovering n e he hstate
    rw [hbank, partnerBank_partnerBank, Backlog.recoveryCount, href, List.length_eq_one_iff] at hcount
    obtain ⟨z, hz⟩ := hcount
    have hyz : y ∈ [z] := hz ▸ List.mem_filter.mpr ⟨hy, decide_eq_true hwork⟩
    have hxz : x ∈ [z] := hz ▸ List.mem_filter.mpr ⟨hx, decide_eq_true hxwork⟩
    rw [List.mem_singleton.mp hyz, ← List.mem_singleton.mp hxz]
    exact hperf

theorem State.Holds.endRecovery (h : s.Holds) {offset length : Nat} {n : PortId} {ref : Nat}
    (ho : (s.banks.get b).operation = some (.recoveryRead offset length n ref))
    (first : (s.banks.get b).pairIn .second = none) : (s.endRecovery b offset length n ref).Holds := by
  have hawait := h.work.notAwaited_of_recovery ho
  have hend {t : State} (ht : t.Holds) (hbanks : t.banks = s.banks) (hgone : t.Gone n ref) : (t.performedEnd b).Holds :=
    ht.performedEnd (by rw [hbanks]; exact ho) rfl (fun _ _ _ _ heq => by cases heq; exact hgone) (by rw [hbanks]; exact first)
      ht.memory
  cases hfind : s.findEntry n ref with
  | none =>
    rw [State.endRecovery_of_removed hfind]
    exact hend h rfl (State.gone_of_findEntry_none hfind)
  | some e =>
    have href : e.ref = ref := s.ref_of_findEntry hfind
    cases hparity : s.memory.parityFault (s.place b offset) length with
    | false =>
      rw [State.endRecovery_of_good hfind hparity]
      exact hend ((h.report _).finishEntry hawait _) rfl (State.finishEntry_gone n ref _)
    | true =>
      rw [State.endRecovery_of_faulty hfind hparity]
      exact hend (h.failEntry (href ▸ hawait) _ _ _) rfl (href ▸ State.finishEntry_gone n e.ref _)

/-! ### Every result of a slot (R12) -/

/-- No bank has an operation of a pair without the pair. -/
theorem State.WorkHolds.not_stray (h : s.WorkHolds) : (s.banks.get b).pairHolds ≠ false := by
  rw [h.pairs b]
  nofun

theorem State.HandsBack.holds {t : State} (hb : s.HandsBack b t) (h : s.Holds) : t.Holds := by
  cases hb with
  | nothing => exact h
  | pairEnd pair second => exact h.endPair pair second
  | read operation first => exact h.endRead operation first
  | write operation first => exact h.endWrite operation first
  | atomicRead operation pair first => exact h.endAtomicRead operation pair first
  | secondary operation first => exact h.endSecondary operation first
  | recovery operation first => exact h.endRecovery operation first
  | refresh operation kind first =>
    refine h.clearOperation operation ?_ ?_ ?_ first <;> rcases kind with rfl | rfl
    · rfl
    · rfl
    · rfl
    · rfl
    · exact fun _ _ hc => by cases hc
    · exact fun _ _ hc => by cases hc
  | stray unheld => exact absurd unheld h.work.not_stray

theorem State.Holds.endBank (h : s.Holds) (b : Bank) : (s.endBank b).Holds := (s.endBank_handsBack b).holds h

theorem State.Holds.endBanks (h : s.Holds) : s.endBanks.Holds :=
  foldl_keeps (P := State.Holds) (fun _ b h => h.endBank b) _ h

end

end Sys2Proof.Machine
end

section
/-! SUPPORT. The slot end keeps the invariant: the next position, and the normal, the truncated and the forced boundary (R13 to R18). -/

namespace Sys2Proof.Machine

section
variable {s : State}

/-! ### The pairs that a slot end meets (R42, R147) -/

theorem State.reactionDue_of_running (h : s.ControlHolds) (ht : s.scheduler.timer = .running) : s.commit.reactionDue = false := by
  by_contra hdue
  have hstarting := (h.position.2 (by simpa using hdue)).1
  rw [ht] at hstarting
  cases hstarting

theorem State.BanksIdle.first (h : s.BanksIdle) {b : Bank} {p : AtomicPair} (hp : (s.banks.get b).pair = some p) :
    p.slot = .first :=
  PairSlot.eq_first_of_ne_second (Sequencer.pairIn_eq_none_iff.mp (h b (mem_allBanks b)).2 p hp)

/-- A pair whose first slot ends needs the next position. -/
theorem State.PairsOnGrid.isPairAt (h : s.PairsOnGrid) (hi : s.BanksIdle) (ht : s.scheduler.timer = .running) {b : Bank}
    {p : AtomicPair} (hp : (s.banks.get b).pair = some p) :
    rowUsed s.commit.active.geometry.split b = true
      ∧ isPairAt (s.activeRow b) s.slots p.access.port s.scheduler.position = true := by
  have hgrid := h b (mem_allBanks b)
  simpa only [State.pairOnGrid, hp, ht, hi.first hp, Bool.and_eq_true] using hgrid

theorem State.PairsOnGrid.no_pair_at_last (h : s.PairsOnGrid) (hi : s.BanksIdle) (ht : s.scheduler.timer = .running)
    (hlast : s.slots ≤ s.scheduler.position + 1) (b : Bank) : (s.banks.get b).pair = none := by
  rw [Option.eq_none_iff_forall_ne_some]
  intro p hp
  obtain ⟨-, hpair⟩ := h.isPairAt hi ht hp
  simp only [Machine.isPairAt, Bool.and_eq_true, decide_eq_true_eq] at hpair
  omega

theorem State.BanksIdle.no_pair_of_not_heldOpen (hi : s.BanksIdle) (h : s.heldOpen = false) (b : Bank) :
    (s.banks.get b).pair = none := by
  rw [Option.eq_none_iff_forall_ne_some]
  intro p hp
  simp only [State.heldOpen, List.any_eq_false] at h
  exact h b (mem_allBanks b) (by simp [Sequencer.inFirstSlot, hp, hi.first hp])

/-! ### The next position of a cycle (R13) -/

theorem State.Holds.nextPosition (h : s.Holds) (hi : s.BanksIdle) (ht : s.scheduler.timer = .running)
    (hp : s.scheduler.position + 1 < s.slots) : (s.nextPosition (s.scheduler.position + 1)).Holds := by
  refine ⟨h.lists.congr rfl rfl rfl, h.places.congr rfl rfl, h.work.congr rfl rfl (fun _ => rfl) (fun _ => rfl) rfl rfl,
    h.control.of_not_due (State.reactionDue_of_running h.control ht) rfl rfl hp, ?_, h.faults, h.captures, h.memory⟩
  intro b _
  cases hpair : (s.banks.get b).pair with
  | none => exact State.pairOnGrid_of_no_pair hpair
  | some p =>
    obtain ⟨hused, hat⟩ := h.grid.isPairAt hi ht hpair
    simp only [isPairAt, Bool.and_eq_true] at hat
    have hpair' : ((s.nextPosition (s.scheduler.position + 1)).banks.get b).pair = some p := hpair
    have htimer : (s.nextPosition (s.scheduler.position + 1)).scheduler.timer = .starting := rfl
    simp only [State.pairOnGrid, hpair', htimer, hi.first hpair, Bool.and_eq_true, decide_eq_true_eq]
    exact ⟨hused, Nat.succ_pos _, of_decide_eq_true hat.2⟩

/-! ### A normal and a truncated boundary (R14, R64, R148, R149) -/

theorem QueueEntry.ageAt_sameTask (e : QueueEntry) (limit : BitVec 8) : (e.ageAt limit).SameTask e := by
  rw [QueueEntry.ageAt_eq]
  split
  · split <;> exact ⟨rfl, rfl, rfl, rfl, rfl, rfl, rfl⟩
  · exact .refl e

theorem QueueEntry.age_ageAt_le {e : QueueEntry} (h : e.age ≤ 255) (limit : BitVec 8) : (e.ageAt limit).age ≤ 255 := by
  rw [QueueEntry.ageAt_eq]
  split
  · split
    · exact h
    · exact Nat.min_le_left _ _
  · exact h

theorem State.ageQueues_queue (n : PortId) : s.ageQueues.queues.get n =
    (s.queues.get n).map fun e => e.ageAt (s.commit.active.waitLimits.get n) := PerPort.get_mapPort _ _ _

theorem State.ListsHold.ageQueues (h : s.ListsHold) : s.ageQueues.ListsHold := by
  refine ⟨fun n => ?_, h.refs, h.length, fun n e he => ?_, fun n hline => ?_⟩
  · rw [State.ageQueues_queue, List.map_map]
    refine Eq.trans ?_ (h.tied n)
    exact List.map_congr_left fun e _ => (e.ageAt_sameTask _).ref
  · rw [State.ageQueues_queue] at he
    obtain ⟨x, hx, rfl⟩ := List.mem_map.mp he
    exact QueueEntry.age_ageAt_le (h.ages n x hx) _
  · obtain ⟨hq, hc⟩ := h.resets n hline
    exact ⟨by rw [State.ageQueues_queue, hq, List.map_nil], hc⟩

theorem State.WorkHolds.ageQueues (h : s.WorkHolds) : s.ageQueues.WorkHolds := by
  refine h.of_queues (fun _ => rfl) (fun _ => rfl) rfl le_rfl (fun _ => rfl) (fun n e he => .inr ?_) ?_
  · rw [State.ageQueues_queue] at he
    obtain ⟨x, hx, rfl⟩ := List.mem_map.mp he
    exact ⟨x, hx, x.ageAt_sameTask _⟩
  · rintro - - - - n - - ⟨e, he, rfl⟩
    rw [State.ageQueues_queue]
    exact ⟨_, List.mem_map_of_mem he, (e.ageAt_sameTask _).ref⟩

theorem State.TrafficHolds.ageQueues (h : s.TrafficHolds) : s.ageQueues.TrafficHolds :=
  ⟨h.lists.ageQueues, h.places.congr rfl rfl, h.work.ageQueues⟩

/-- What a boundary changes of the sync unit: a pulse mark and a pending truncation are cleared, and in LOCKED a miss may be counted or a
loss of lock be due (R148, R149). -/
structure SyncUnit.Bounded (u v : SyncUnit) : Prop where
  state      : v.state = u.state
  slips      : v.slipCount = u.slipCount
  captures   : v.captures = u.captures
  misses     : v.missCount ≤ 2
  truncation : v.truncationPending = false
  pulse      : v.pulseMark = false
  lost       : v.lostDue = true → u.state = .locked

theorem SyncUnit.atBoundary_bounded {u : SyncUnit} (hm : u.missCount ≤ 2) (hl : u.lostDue = true → u.state = .locked) :
    u.Bounded u.atBoundary := by
  unfold SyncUnit.atBoundary SyncUnit.judge
  split
  · exact ⟨rfl, rfl, rfl, hm, rfl, rfl, hl⟩
  · rename_i htruncation
    rw [Bool.not_eq_true] at htruncation
    split
    · rename_i hlocked
      split
      · rename_i hmiss
        exact ⟨rfl, rfl, rfl, hmiss.le, htruncation, hlocked.1, hl⟩
      · exact ⟨rfl, rfl, rfl, hm, htruncation, hlocked.1, fun _ => hlocked.2⟩
    · exact ⟨rfl, rfl, rfl, hm, htruncation, rfl, hl⟩

theorem State.ControlHolds.boundary {t : State} (h : s.ControlHolds) (hc : t.commit = { s.commit with reactionDue := true })
    (hs : s.sync.Bounded t.sync) (ht : t.scheduler.timer = .starting) (hp : t.scheduler.position = 0) : t.ControlHolds := by
  obtain ⟨hplans, -, hdrain, hdraining, hslips, -, hfree, -, -, -, -⟩ := h
  constructor
  · simpa only [State.PlansValid, hc] using hplans
  · exact ⟨by rw [hp]; exact t.slots_pos, fun _ => ⟨ht, hp⟩⟩
  · simpa only [hc] using hdrain
  · simpa only [hc] using hdraining
  · rw [hs.slips]
    exact hslips
  · exact hs.misses
  · simp only [State.SyncConsistent, hc, hs.state, hs.truncation, hs.pulse]
    exact ⟨hfree, nofun, nofun, fun hlost => ⟨hs.lost hlost, trivial, trivial⟩, fun _ => ⟨trivial, trivial⟩⟩

/-- A boundary leaves the commit controller's reaction due. -/
theorem State.Holds.boundary (h : s.Holds) (hp : ∀ b, (s.banks.get b).pair = none) :
    ((s.nextCycle.ageQueues.setSync s.sync.atBoundary).markReaction .checkAfterExpiry).Holds := by
  have htraffic : s.ageQueues.TrafficHolds := h.traffic.ageQueues
  obtain ⟨-, -, -, hlost, -⟩ := h.control.sync
  have hbounded := SyncUnit.atBoundary_bounded h.control.misses fun hl => (hlost hl).1
  exact ⟨htraffic.lists.congr rfl rfl rfl, htraffic.places.congr rfl rfl,
    htraffic.work.congr rfl rfl (fun _ => rfl) (fun _ => rfl) rfl rfl, h.control.boundary rfl hbounded rfl rfl,
    .of_no_pairs hp, h.faults, hbounded.captures.symm ▸ h.captures, h.memory⟩

theorem State.Holds.cycleReactions (h : s.Holds) (hp : ∀ b, (s.banks.get b).pair = none) (check : DrainCheckOrder) :
    (s.cycleReactions check).Holds := by
  have hmarked := h.boundary hp
  rw [State.cycleReactions]
  cases check with
  | checkAfterExpiry => exact hmarked
  | checkFirst =>
    rw [State.markReaction_checkFirst]
    split
    · exact hmarked
    · rename_i hends
      rw [Bool.or_eq_true, not_or, Bool.not_eq_true, Bool.not_eq_true] at hends
      exact hmarked.of_control (hmarked.control.countDrain rfl hends.1 hends.2) rfl rfl

/-- A truncated boundary examines the positions that it drops (R102). -/
theorem State.setDebts_bank (b : Bank) :
    s.setDebts.banks.get b = { s.banks.get b with debt := s.debtAfterDrop b (s.banks.get b).debt } := PerBank.get_mapBank _ _ _

theorem State.TrafficHolds.setDebts (h : s.TrafficHolds) : s.setDebts.TrafficHolds := by
  have ho (b : Bank) : (s.setDebts.banks.get b).operation = (s.banks.get b).operation := by rw [State.setDebts_bank]
  have hp (b : Bank) : (s.setDebts.banks.get b).pair = (s.banks.get b).pair := by rw [State.setDebts_bank]
  exact ⟨h.lists.congr rfl rfl rfl, h.places.of_banks rfl ho hp, h.work.congr rfl rfl ho hp rfl rfl⟩

theorem State.Holds.setDebts (h : s.Holds) : s.setDebts.Holds := by
  have htraffic := h.traffic.setDebts
  refine ⟨htraffic.lists, htraffic.places, htraffic.work, h.control.congr rfl rfl rfl rfl, fun b hb => ?_, h.faults,
    h.captures, h.memory⟩
  exact (State.pairOnGrid_congr (s := s) (t := s.setDebts) (by rw [State.setDebts_bank]) rfl rfl rfl).trans (h.grid b hb)

/-! ### A forced boundary (R16, R93, R186) -/

theorem State.clearTraffic_queue (n : PortId) : s.clearTraffic.queues.get n = [] := by
  show (⟨[], [], [], []⟩ : PerPort (List QueueEntry)).get n = []
  unfold PerPort.get
  split <;> rfl

theorem State.clearTraffic_port (n : PortId) : s.clearTraffic.ports.get n = { s.ports.get n with completions := [] } :=
  PerPort.get_map _ _ _

theorem State.clearTraffic_mirror (b : Bank) : s.clearTraffic.mirrors.get b = (s.mirrors.get b).dropRecoveries none :=
  PerBank.get_map _ _ _

theorem State.clearTraffic_listsHold (s : State) : s.clearTraffic.ListsHold := by
  constructor
  · intro n
    rw [State.clearTraffic_queue, State.clearTraffic_port]
    rfl
  · intro n
    rw [State.clearTraffic_port]
    exact ⟨List.nodup_nil, nofun⟩
  · intro n
    rw [State.clearTraffic_port]
    exact Nat.zero_le _
  · intro n e he
    rw [State.clearTraffic_queue] at he
    cases he
  · intro n _
    rw [State.clearTraffic_queue, State.clearTraffic_port]
    exact ⟨rfl, rfl⟩

theorem Backlog.dropRecoveries_entries (l : Backlog) (n : Option PortId) :
    (l.dropRecoveries n).entries = l.entries.filter fun x => !x.recoveryOf n := rfl

/-- A reset removes no entry that is being performed (R92). -/
theorem BacklogEntry.recoveryOf_of_performing {x : BacklogEntry} (h : x.performing = true) (n : Option PortId) :
    x.recoveryOf n = false := by
  cases hw : x.work <;> simp [BacklogEntry.recoveryOf, hw, h]

theorem State.WorkHolds.clearTraffic (h : s.WorkHolds) : s.clearTraffic.WorkHolds := by
  refine h.of_lists (fun x => !x.recoveryOf none) (fun _ => rfl) (fun _ => rfl) rfl le_rfl
    (fun b => by rw [State.clearTraffic_mirror, Backlog.dropRecoveries_entries]) ?_ ?_ ?_ ?_
  · intro n e he
    rw [State.clearTraffic_queue] at he
    cases he
  · intro x hx
    rw [BacklogEntry.recoveryOf_of_performing hx]
    rfl
  · intro b x _ hkeep hperf n ref hwork
    rw [BacklogEntry.recoveryOf_none, hwork, hperf] at hkeep
    cases hkeep
  · intro n e he
    rw [State.clearTraffic_queue] at he
    cases he

theorem State.PlacesHold.clearTraffic (h : s.PlacesHold) : s.clearTraffic.PlacesHold := by
  constructor
  · intro b
    rw [State.clearTraffic_mirror, Backlog.dropRecoveries_places]
    exact h.room b
  · intro b
    rw [State.clearTraffic_mirror]
    exact h.reservations b

theorem State.TrafficHolds.clearTraffic (h : s.TrafficHolds) : s.clearTraffic.TrafficHolds :=
  ⟨s.clearTraffic_listsHold, h.places.clearTraffic, h.work.clearTraffic⟩

theorem State.ControlHolds.forcedBoundary (h : s.ControlHolds) (hd : s.commit.reactionDue = false) :
    s.forcedBoundary.ControlHolds := by
  obtain ⟨hplans, -, hdrain, hdraining, -, -, -⟩ := h
  have hdue : s.forcedBoundary.commit.reactionDue = false := hd
  have hsync : s.forcedBoundary.sync = forcedSync s.commit.active.syncEnable := rfl
  refine ⟨hplans, ⟨s.slots_pos, fun hdue' => ?_⟩, hdrain, hdraining, Nat.zero_le _, Nat.zero_le _, ?_, ?_, ?_, ?_, ?_⟩
  · rw [hdue] at hdue'
    cases hdue'
  · rw [hsync, show s.forcedBoundary.commit = s.commit from rfl]
    cases s.commit.active.syncEnable <;> simp [forcedSync]
  · exact nofun
  · exact nofun
  · exact nofun
  · exact fun _ => ⟨rfl, rfl⟩

theorem State.Holds.forcedBoundary (h : s.Holds) (hp : ∀ b, (s.banks.get b).pair = none) (hd : s.commit.reactionDue = false) :
    s.forcedBoundary.Holds := by
  have htraffic := h.traffic.setDebts.clearTraffic
  refine ⟨htraffic.lists.congr rfl rfl rfl, htraffic.places.congr rfl rfl,
    htraffic.work.congr rfl rfl (fun _ => rfl) (fun _ => rfl) rfl rfl, h.control.forcedBoundary hd, .of_no_pairs fun b => ?_,
    Nat.zero_le _, Nat.zero_le _, h.memory⟩
  have hbank : s.forcedBoundary.banks.get b = s.setDebts.banks.get b := rfl
  rw [hbank, State.setDebts_bank]
  exact hp b

/-! ### Any slot end (R13) -/

theorem State.Holds.advance (h : s.Holds) (hi : s.BanksIdle) (ht : s.scheduler.timer = .running) (check : DrainCheckOrder) :
    (s.advance check).Holds := by
  cases hf : s.forcedFalls with
  | true =>
    rw [State.advance_of_forced hf]
    have hopen : s.heldOpen = false := by
      simp only [State.forcedFalls, Bool.and_eq_true, Bool.not_eq_true'] at hf
      exact hf.2
    exact h.forcedBoundary (hi.no_pair_of_not_heldOpen hopen) (State.reactionDue_of_running h.control ht)
  | false =>
    by_cases hp : s.scheduler.position + 1 < s.slots
    · cases htrunc : s.truncationFalls with
      | false =>
        rw [State.advance_of_plain hf htrunc hp]
        exact h.nextPosition hi ht hp
      | true =>
        have kind : s.slotEndKind = .truncated := by simp [State.slotEndKind, hf, htrunc, hp]
        have hopen : s.heldOpen = false := by
          simp only [State.truncationFalls, Bool.and_eq_true, Bool.not_eq_true'] at htrunc
          exact htrunc.2
        rw [State.advance, kind]
        refine h.setDebts.cycleReactions (fun b => ?_) check
        rw [State.setDebts_bank]
        exact hi.no_pair_of_not_heldOpen hopen b
    · rw [Nat.not_lt] at hp
      rw [State.advance_of_normal hf hp]
      exact h.cycleReactions (h.grid.no_pair_at_last hi ht hp) check

theorem State.Holds.endSlot (h : s.Holds) (ht : s.scheduler.timer = .running) (check : DrainCheckOrder) :
    (s.endSlot check).Holds := by
  refine h.settle.endBanks.advance (State.endBanks_banksIdle _) ?_ check
  rw [(State.endBanks_frame _).scheduler, s.settle_frame.scheduler, ht]

theorem State.endSlot_banksIdle (s : State) (check : DrainCheckOrder) : (s.endSlot check).BanksIdle :=
  State.advance_banksIdle (State.endBanks_banksIdle _) check

theorem State.endSlot_timer (s : State) (check : DrainCheckOrder) : (s.endSlot check).scheduler.timer = .starting :=
  State.advance_timer _ check

end

end Sys2Proof.Machine
end

section
/-! SUPPORT. The commands of the ports and the resets of the part keep the invariant (R155, R161 to R171, R187, R12). -/

namespace Sys2Proof.Machine

section
variable {s t : State} {n : PortId}

/-! ### The invariant from its parts -/

theorem State.Inv.holds (h : s.Inv) : s.Holds := (s.inv_iff.mp h).1

/-- While a slot runs, nothing is asked of idle banks and of a reset. -/
theorem State.Holds.inv_of_running (h : s.Holds) (ht : s.scheduler.timer = .running) : s.Inv :=
  s.inv_iff.mpr ⟨h, fun hne => absurd ht hne, fun hs => by rw [ht] at hs; cases hs⟩

theorem State.Holds.inv_of_starting (h : s.Holds) (ht : s.scheduler.timer = .starting) (hi : s.BanksIdle) : s.Inv :=
  s.inv_iff.mpr ⟨h, fun _ => hi, fun hs => by rw [ht] at hs; cases hs⟩

/-- A command that is no slot start and no slot end, and keeps what each bank performs. -/
theorem State.Holds.inv (ht : t.Holds) (h : s.Inv) (htimer : t.scheduler.timer = s.scheduler.timer)
    (ho : ∀ b, (t.banks.get b).operation = (s.banks.get b).operation) (hp : ∀ b, (t.banks.get b).pair = (s.banks.get b).pair)
    (hq : s.scheduler.timer = .stopped → t.QuietInReset) : t.Inv := by
  refine t.inv_iff.mpr ⟨ht, fun hne b hb => ?_, fun hs => hq (htimer.symm.trans hs) hs⟩
  obtain ⟨hop, hfirst⟩ := h.idle (htimer ▸ hne) b hb
  refine ⟨(ho b).trans hop, ?_⟩
  rw [Sequencer.pairIn] at hfirst ⊢
  rw [hp b]
  exact hfirst

/-- The same for a command that leaves the sequencers alone. -/
theorem State.Holds.inv_of_banks (ht : t.Holds) (h : s.Inv) (htimer : t.scheduler.timer = s.scheduler.timer)
    (hb : t.banks = s.banks) (hq : s.scheduler.timer = .stopped → t.QuietInReset) : t.Inv :=
  ht.inv h htimer (fun _ => by rw [hb]) (fun _ => by rw [hb]) hq

theorem State.inReset_iff : s.inReset = true ↔ s.scheduler.timer = .stopped := decide_eq_true_iff

/-- Outside reset nothing is asked of a reset. -/
theorem State.quiet_of_not_inReset (h : s.inReset = false) {P : Prop} (hs : s.scheduler.timer = .stopped) : P := by
  rw [State.inReset_iff.mpr hs] at h
  cases h

/-- Commands that wait are no part of the invariant. -/
theorem State.Inv.setPending (h : s.Inv) (l : List Instr) : ({ s with pending := l } : State).Inv := by
  obtain ⟨hh, hi, hq⟩ := s.inv_iff.mp h
  exact State.inv_iff _ |>.mpr ⟨⟨hh.lists.congr rfl rfl rfl, hh.places.congr rfl rfl,
    hh.work.congr rfl rfl (fun _ => rfl) (fun _ => rfl) rfl rfl, hh.control.congr rfl rfl rfl rfl, hh.grid, hh.faults,
    hh.captures, hh.memory⟩, hi, hq⟩

/-! ### ACCEPTANCE (R161, R165, R166) -/

/-- A request taken: its completion entry, and its queue entry if it passed the checks. -/
def State.enroll (s : State) (n : PortId) (m : RequestMessage) (new : List QueueEntry) (c : CompletionState) : State :=
  (s.setQueue n (s.queues.get n ++ new)).addCompletion n m c

theorem State.enroll_queue {m : RequestMessage} {new : List QueueEntry} {c : CompletionState} (k : PortId) :
    (s.enroll n m new c).queues.get k = if k = n then s.queues.get k ++ new else s.queues.get k := by
  show (s.queues.set n _).get k = _
  rw [PerPort.get_set]
  split
  · rename_i hk
    rw [hk]
  · rfl

theorem State.enroll_port {m : RequestMessage} {new : List QueueEntry} {c : CompletionState} (k : PortId) :
    (s.enroll n m new c).ports.get k = if k = n then { s.ports.get k with
      completions := (s.ports.get k).completions ++ [⟨s.nextRef, m.tag, m.kind, c⟩] } else s.ports.get k := by
  show (s.ports.set n _).get k = _
  rw [PerPort.get_set]
  split
  · rename_i hk
    rw [hk]
    rfl
  · rfl

theorem State.ListsHold.enroll (h : s.ListsHold) {m : RequestMessage} {new : List QueueEntry} {c : CompletionState}
    (hlength : (s.ports.get n).completions.length < Config.completionCapacity) (hline : (s.ports.get n).resetLine = false)
    (hnew : new.map (·.ref) = pendingRefs [⟨s.nextRef, m.tag, m.kind, c⟩]) (hage : ∀ e ∈ new, e.age ≤ 255) :
    (s.enroll n m new c).ListsHold := by
  constructor
  · intro k
    rw [State.enroll_queue, State.enroll_port]
    split
    · rw [List.map_append, pendingRefs_append, h.tied k, hnew]
    · exact h.tied k
  · intro k
    obtain ⟨hnodup, hfresh⟩ := h.refs k
    have hfresh' : ∀ x ∈ (s.ports.get k).completions, x.ref < s.nextRef + 1 := fun x hx => (hfresh x hx).trans (Nat.lt_succ_self _)
    rw [State.enroll_port]
    split
    · refine ⟨?_, fun x hx => ?_⟩
      · rw [List.map_append, List.nodup_append]
        refine ⟨hnodup, List.nodup_singleton _, fun a ha b hb => ?_⟩
        obtain ⟨x, hx, rfl⟩ := List.mem_map.mp ha
        rw [List.mem_singleton.mp hb]
        exact (hfresh x hx).ne
      · rcases List.mem_append.mp hx with hx | hx
        · exact hfresh' x hx
        · rw [List.mem_singleton.mp hx]
          exact Nat.lt_succ_self _
    · exact ⟨hnodup, hfresh'⟩
  · intro k
    rw [State.enroll_port]
    split
    · rename_i hk
      rw [hk, List.length_append, List.length_singleton]
      exact hlength
    · exact h.length k
  · intro k e he
    rw [State.enroll_queue] at he
    split at he
    · rcases List.mem_append.mp he with he | he
      · exact h.ages k e he
      · exact hage e he
    · exact h.ages k e he
  · intro k hk
    rw [State.enroll_port] at hk ⊢
    rw [State.enroll_queue]
    split at hk
    · rename_i hkn
      rw [hkn, hline] at hk
      cases hk
    · rename_i hkn
      rw [if_neg hkn, if_neg hkn]
      exact h.resets k hk

theorem State.WorkHolds.enroll (h : s.WorkHolds) {m : RequestMessage} {new : List QueueEntry} {c : CompletionState}
    (hnew : ∀ e ∈ new, s.nextRef ≤ e.ref ∧ e.state = .waiting) : (s.enroll n m new c).WorkHolds := by
  refine h.of_queues (fun _ => rfl) (fun _ => rfl) rfl (Nat.le_succ _) (fun _ => rfl) (fun k e he => ?_) ?_
  · rw [State.enroll_queue] at he
    split at he
    · rcases List.mem_append.mp he with he | he
      · exact .inr ⟨e, he, .refl e⟩
      · exact .inl (hnew e he)
    · exact .inr ⟨e, he, .refl e⟩
  · rintro - - - - k - - ⟨e, he, rfl⟩
    refine ⟨e, ?_, rfl⟩
    rw [State.enroll_queue]
    split
    · exact List.mem_append_left _ he
    · exact he

theorem State.Holds.enroll (h : s.Holds) (hgate : s.gateOpen n = true) {m : RequestMessage} {new : List QueueEntry}
    {c : CompletionState} (hnew : new.map (·.ref) = pendingRefs [⟨s.nextRef, m.tag, m.kind, c⟩])
    (hentry : ∀ e ∈ new, e.age ≤ 255 ∧ s.nextRef ≤ e.ref ∧ e.state = .waiting) : (s.enroll n m new c).Holds := by
  simp only [State.gateOpen, Bool.and_eq_true, Bool.not_eq_true', decide_eq_true_eq] at hgate
  obtain ⟨⟨⟨-, hline⟩, -⟩, hlength⟩ := hgate
  exact ⟨h.lists.enroll hlength hline hnew fun e he => (hentry e he).1, h.places.congr rfl rfl,
    h.work.enroll fun e he => (hentry e he).2, h.control.congr rfl rfl rfl rfl, h.grid, h.faults, h.captures, h.memory⟩

theorem State.Holds.acceptRequest (h : s.Holds) (hgate : s.gateOpen n = true) (m : RequestMessage) (b : Bank) (mirror : Bool) :
    (s.acceptRequest n m b mirror).Holds := by
  refine h.enroll hgate (new := [newEntry s.nextRef m b mirror]) (c := .pending) (by simp [pendingRefs, newEntry]) fun e he => ?_
  rw [List.mem_singleton.mp he]
  exact ⟨Nat.zero_le _, le_rfl, rfl⟩

theorem State.Holds.refuseRequest (h : s.Holds) (hgate : s.gateOpen n = true) (m : RequestMessage) (status : ResponseStatus)
    (kind : FaultKind) (bank : Option Bank) (region : Option (Fin 16)) :
    (s.refuseRequest n m status kind bank region).Holds := by
  have htaken := (h.report (s.requestRecord kind n (some m.tag) m.address bank region s.scheduler.position)).enroll (n := n)
    (by exact hgate) (m := m) (new := []) (c := .done (bareResult status)) (by simp [pendingRefs]) nofun
  rw [State.enroll, List.append_nil, State.setQueue, PerPort.set_get_self] at htaken
  exact htaken

theorem State.gateOpen_of_stopped (hs : s.scheduler.timer = .stopped) : s.gateOpen n = false := by
  simp [State.gateOpen, State.inReset, hs]

theorem State.Inv.acceptance (h : s.Inv) (m : RequestMessage) : (if s.gateOpen n then s.takeRequest n m else s).Inv := by
  split
  · rename_i hgate
    have hquiet {P : Prop} (hs : s.scheduler.timer = .stopped) : P := by
      rw [State.gateOpen_of_stopped hs] at hgate
      cases hgate
    unfold State.takeRequest
    split
    · exact (h.holds.refuseRequest hgate m _ _ _ _).inv_of_banks h rfl rfl hquiet
    · exact (h.holds.acceptRequest hgate m _ _).inv_of_banks h rfl rfl hquiet
  · exact h

/-! ### RESPONSE_TRANSFER (R155) -/

/-- The list of a port whose response is offered begins with a DONE entry. -/
theorem State.exists_of_offered {r : ResponseMessage} (h : s.offered n = some r) : s.inReset = false ∧
    ∃ c rest, (s.ports.get n).completions = c :: rest ∧ c.state ≠ .pending := by
  unfold State.offered at h
  split at h
  · cases h
  · rename_i hline
    rw [Bool.or_eq_true, not_or, Bool.not_eq_true] at hline
    refine ⟨hline.1, ?_⟩
    split at h
    · rename_i heq
      exact ⟨_, _, heq, nofun⟩
    · cases h

theorem State.setCompletions_port (l : List CompletionEntry) (k : PortId) : (s.setCompletions n l).ports.get k =
    if k = n then { s.ports.get k with completions := l } else s.ports.get k := by
  show (s.ports.set n _).get k = _
  rw [PerPort.get_set]
  split
  · rename_i hk
    rw [hk]
  · rfl

theorem State.ListsHold.setCompletions (h : s.ListsHold) {l : List CompletionEntry}
    (hsub : l.Sublist (s.ports.get n).completions) (hpending : pendingRefs l = pendingRefs (s.ports.get n).completions) :
    (s.setCompletions n l).ListsHold := by
  constructor
  · intro k
    rw [State.setCompletions_port]
    split
    · rename_i hk
      subst hk
      exact (h.tied k).trans hpending.symm
    · exact h.tied k
  · intro k
    rw [State.setCompletions_port]
    split
    · rename_i hk
      subst hk
      obtain ⟨hnodup, hfresh⟩ := h.refs k
      exact ⟨hnodup.sublist (hsub.map _), fun c hc => hfresh c (hsub.subset hc)⟩
    · exact h.refs k
  · intro k
    rw [State.setCompletions_port]
    split
    · rename_i hk
      subst hk
      exact hsub.length_le.trans (h.length k)
    · exact h.length k
  · exact h.ages
  · intro k hk
    rw [State.setCompletions_port] at hk ⊢
    split at hk
    · rename_i hkn
      subst hkn
      obtain ⟨hq, hc⟩ := h.resets k hk
      rw [if_pos rfl]
      rw [hc, List.sublist_nil] at hsub
      exact ⟨hq, hsub⟩
    · rename_i hkn
      rw [if_neg hkn]
      exact h.resets k hk

theorem State.Inv.responseTransfer (h : s.Inv) (n : PortId) : (match s.offered n with
    | some _ => s.setCompletions n (s.ports.get n).completions.tail
    | none => s).Inv := by
  split
  · rename_i r hoffered
    obtain ⟨hreset, c, rest, hlist, hdone⟩ := State.exists_of_offered hoffered
    have hh := h.holds
    have hlists : (s.setCompletions n (s.ports.get n).completions.tail).ListsHold :=
      hh.lists.setCompletions (List.tail_sublist _) (by simp [hlist, pendingRefs, hdone])
    have hkept : (s.setCompletions n (s.ports.get n).completions.tail).Holds :=
      ⟨hlists, hh.places.congr rfl rfl, hh.work.congr rfl rfl (fun _ => rfl) (fun _ => rfl) rfl rfl,
        hh.control.congr rfl rfl rfl rfl, hh.grid, hh.faults, hh.captures, hh.memory⟩
    exact hkept.inv_of_banks h rfl rfl (State.quiet_of_not_inReset hreset)
  · exact h

/-! ### PORT_RESET and its release (R70, R92, R170, R171) -/

theorem State.clearPort_queue (k : PortId) :
    (s.clearPort n).queues.get k = if k = n then [] else s.queues.get k := PerPort.get_set _ _ _ _

theorem State.clearPort_port (k : PortId) : (s.clearPort n).ports.get k =
    if k = n then { s.ports.get k with completions := [] } else s.ports.get k := by
  show (s.ports.set n _).get k = _
  rw [PerPort.get_set]
  split
  · rename_i hk
    rw [hk]
    rfl
  · rfl

theorem State.clearPort_mirror (b : Bank) :
    (s.clearPort n).mirrors.get b = (s.mirrors.get b).dropRecoveries (some n) := PerBank.get_map _ _ _

theorem State.ListsHold.clearPort (h : s.ListsHold) (n : PortId) : (s.clearPort n).ListsHold := by
  constructor
  · intro k
    rw [State.clearPort_queue, State.clearPort_port]
    split
    · rfl
    · exact h.tied k
  · intro k
    rw [State.clearPort_port]
    split
    · exact ⟨List.nodup_nil, nofun⟩
    · exact h.refs k
  · intro k
    rw [State.clearPort_port]
    split
    · exact Nat.zero_le _
    · exact h.length k
  · intro k e he
    rw [State.clearPort_queue] at he
    split at he
    · cases he
    · exact h.ages k e he
  · intro k hk
    rw [State.clearPort_port] at hk ⊢
    rw [State.clearPort_queue]
    split at hk
    · rename_i hkn
      rw [if_pos hkn, if_pos hkn]
      exact ⟨rfl, rfl⟩
    · rename_i hkn
      rw [if_neg hkn, if_neg hkn]
      exact h.resets k hk

theorem BacklogEntry.recoveryOf_some (x : BacklogEntry) (n : PortId) : x.recoveryOf (some n) = match x.work with
    | .secondaryWrite _ => false
    | .recoveryRead m _ => !x.performing && decide (m = n) := by
  cases h : x.work <;> simp [BacklogEntry.recoveryOf, h]

theorem State.WorkHolds.clearPort (h : s.WorkHolds) (n : PortId) : (s.clearPort n).WorkHolds := by
  refine h.of_lists (fun x => !x.recoveryOf (some n)) (fun _ => rfl) (fun _ => rfl) rfl le_rfl
    (fun b => by rw [State.clearPort_mirror, Backlog.dropRecoveries_entries]) (fun k e he => .inr ⟨e, ?_, .refl e⟩) ?_ ?_ ?_
  · rw [State.clearPort_queue] at he
    split at he
    · cases he
    · exact he
  · intro x hx
    rw [BacklogEntry.recoveryOf_of_performing hx]
    rfl
  · rintro b x - hkeep hperf k ref hwork ⟨e, he, href⟩
    refine ⟨e, ?_, href⟩
    have hk : k ≠ n := by
      rintro rfl
      rw [BacklogEntry.recoveryOf_some, hwork, hperf] at hkeep
      simp at hkeep
    rwa [State.clearPort_queue, if_neg hk]
  · intro k e he _ x hwork
    have hk : k ≠ n := by
      rintro rfl
      rw [State.clearPort_queue, if_pos rfl] at he
      cases he
    rw [BacklogEntry.recoveryOf_some, hwork]
    simp [hk]

theorem State.PlacesHold.clearPort (h : s.PlacesHold) (n : PortId) : (s.clearPort n).PlacesHold := by
  constructor
  · intro b
    rw [State.clearPort_mirror, Backlog.dropRecoveries_places]
    exact h.room b
  · intro b
    rw [State.clearPort_mirror]
    exact h.reservations b

theorem State.Holds.clearPort (h : s.Holds) (n : PortId) : (s.clearPort n).Holds :=
  ⟨h.lists.clearPort n, h.places.clearPort n, h.work.clearPort n, h.control.congr rfl rfl rfl rfl, h.grid, h.faults,
    h.captures, h.memory⟩

theorem State.setResetLine_port (asserted : Bool) (k : PortId) : (s.setResetLine n asserted).ports.get k =
    if k = n then { s.ports.get k with resetLine := asserted } else s.ports.get k := by
  show (s.ports.set n _).get k = _
  rw [PerPort.get_set]
  split
  · rename_i hk
    rw [hk]
  · rfl

theorem State.setResetLine_completions (asserted : Bool) (k : PortId) :
    ((s.setResetLine n asserted).ports.get k).completions = (s.ports.get k).completions := by
  rw [State.setResetLine_port]
  split <;> rfl

theorem State.ListsHold.setResetLine (h : s.ListsHold) {asserted : Bool}
    (hempty : asserted = true → s.queues.get n = [] ∧ (s.ports.get n).completions = []) :
    (s.setResetLine n asserted).ListsHold := by
  refine ⟨fun k => ?_, fun k => ?_, fun k => ?_, h.ages, fun k hk => ?_⟩
  · rw [State.setResetLine_completions]
    exact h.tied k
  · rw [State.setResetLine_completions]
    exact h.refs k
  · rw [State.setResetLine_completions]
    exact h.length k
  · rw [State.setResetLine_completions]
    rw [State.setResetLine_port] at hk
    split at hk
    · rename_i hkn
      rw [hkn]
      exact hempty hk
    · exact h.resets k hk

theorem State.Holds.setResetLine (h : s.Holds) {asserted : Bool}
    (hempty : asserted = true → s.queues.get n = [] ∧ (s.ports.get n).completions = []) :
    (s.setResetLine n asserted).Holds :=
  ⟨h.lists.setResetLine hempty, h.places.congr rfl rfl, h.work.congr rfl rfl (fun _ => rfl) (fun _ => rfl) rfl rfl,
    h.control.congr rfl rfl rfl rfl, h.grid, h.faults, h.captures, h.memory⟩

/-- In reset a port reset finds nothing to clear. -/
theorem State.QuietInReset.clearPort (h : s.QuietInReset) (n : PortId) : (s.clearPort n).QuietInReset := by
  intro hs
  obtain ⟨hlists, hbanks, hcommit, hsync, hreceiver, hfaults⟩ := h hs
  refine ⟨fun k => ?_, fun b hb => ⟨?_, (hbanks b hb).2⟩, hcommit, hsync, hreceiver, hfaults⟩
  · rw [State.clearPort_queue, State.clearPort_port]
    split
    · exact ⟨rfl, rfl⟩
    · exact hlists k
  · rw [State.clearPort_mirror, (hbanks b hb).1]
    rfl

theorem State.QuietInReset.setResetLine (h : s.QuietInReset) (n : PortId) (asserted : Bool) :
    (s.setResetLine n asserted).QuietInReset := by
  intro hs
  obtain ⟨hlists, hrest⟩ := h hs
  refine ⟨fun k => ?_, hrest⟩
  rw [State.setResetLine_completions]
  exact hlists k

theorem State.Inv.portReset (h : s.Inv) (n : PortId) : ((s.clearPort n).setResetLine n true).Inv := by
  refine ((h.holds.clearPort n).setResetLine fun _ => ?_).inv_of_banks h rfl rfl fun _ => (h.quiet.clearPort n).setResetLine n true
  rw [State.clearPort_queue, State.clearPort_port, if_pos rfl, if_pos rfl]
  exact ⟨rfl, rfl⟩

theorem State.Inv.portResetRelease (h : s.Inv) (n : PortId) : (s.setResetLine n false).Inv :=
  (h.holds.setResetLine (by exact nofun)).inv_of_banks h rfl rfl fun _ => h.quiet.setResetLine n false

/-! ### POWER_ON_RESET and RESET_N_RELEASE (R187, R12) -/

theorem validate_defaultPlan : validate defaultPlan = none := by decide

theorem defaultPlan_inRange : defaultPlan.InRange := by decide

theorem PerPort.get_same {α : Type} (x : α) (n : PortId) : (⟨x, x, x, x⟩ : PerPort α).get n = x := by
  unfold PerPort.get
  split <;> rfl

theorem PerBank.get_same {α : Type} (x : α) (b : Bank) : (⟨x, x, x, x⟩ : PerBank α).get b = x := by
  cases b <;> rfl

section
variable (s)

theorem State.powerOn_queue (n : PortId) : s.powerOn.queues.get n = [] := PerPort.get_same _ n
theorem State.powerOn_port (n : PortId) : s.powerOn.ports.get n = { s.ports.get n with completions := [] } :=
  PerPort.get_map _ _ _
theorem State.powerOn_mirror (b : Bank) : s.powerOn.mirrors.get b = resetBacklog := PerBank.get_same _ b
theorem State.powerOn_bank (b : Bank) : s.powerOn.banks.get b = resetSequencer := PerBank.get_same _ b

theorem State.powerOn_listsHold : s.powerOn.ListsHold := by
  constructor
  · intro n
    rw [State.powerOn_queue, State.powerOn_port]
    rfl
  · intro n
    rw [State.powerOn_port]
    exact ⟨List.nodup_nil, nofun⟩
  · intro n
    rw [State.powerOn_port]
    exact Nat.zero_le _
  · intro n e he
    rw [State.powerOn_queue] at he
    cases he
  · intro n _
    rw [State.powerOn_queue, State.powerOn_port]
    exact ⟨rfl, rfl⟩

theorem State.powerOn_placesHold : s.powerOn.PlacesHold := by
  constructor
  · intro b
    rw [State.powerOn_mirror]
    exact Nat.zero_le _
  · intro b
    rw [State.powerOn_mirror, State.powerOn_bank]
    rfl

theorem State.powerOn_controlHolds : s.powerOn.ControlHolds where
  plans := ⟨validate_defaultPlan, defaultPlan_inRange, defaultPlan_inRange, fun h => absurd rfl h, nofun, nofun⟩
  position := ⟨s.powerOn.slots_pos, nofun⟩
  drain := Nat.zero_le _
  draining := nofun
  slips := Nat.zero_le _
  misses := Nat.zero_le _
  sync := ⟨⟨fun _ => rfl, fun _ => rfl⟩, nofun, nofun, nofun, nofun⟩

end

theorem State.Inv.powerOn (h : s.Inv) : s.powerOn.Inv := by
  have hwork : s.powerOn.WorkHolds := .of_empty s.powerOn_queue (fun b => by rw [State.powerOn_mirror]; rfl)
    (fun b => by rw [State.powerOn_bank]; rfl) fun b => by rw [State.powerOn_bank]; rfl
  refine s.powerOn.inv_iff.mpr ⟨⟨s.powerOn_listsHold, s.powerOn_placesHold, hwork, s.powerOn_controlHolds,
    .of_no_pairs fun b => by rw [State.powerOn_bank]; rfl, Nat.zero_le _, Nat.zero_le _, h.memory⟩, fun _ b _ => ?_, fun _ => ?_⟩
  · rw [State.powerOn_bank]
    exact ⟨rfl, rfl⟩
  · refine ⟨fun n => ?_, fun b _ => ⟨s.powerOn_mirror b, s.powerOn_bank b⟩, rfl, rfl, rfl, rfl⟩
    rw [State.powerOn_queue, State.powerOn_port]
    exact ⟨rfl, rfl⟩

theorem State.Inv.resetNRelease (h : s.Inv) :
    (if s.inReset then s.setScheduler { s.scheduler with timer := .starting } else s).Inv := by
  split
  · rename_i hreset
    have hstopped := State.inReset_iff.mp hreset
    obtain ⟨-, hbanks, hcommit, -⟩ := h.quiet hstopped
    have hh := h.holds
    have hidle : s.BanksIdle := h.idle (by rw [hstopped]; nofun)
    refine State.Holds.inv_of_starting ⟨hh.lists.congr rfl rfl rfl, hh.places.congr rfl rfl,
      hh.work.congr rfl rfl (fun _ => rfl) (fun _ => rfl) rfl rfl,
      hh.control.of_not_due (by rw [hcommit]; rfl) rfl rfl hh.control.position.1, .of_no_pairs fun b => ?_, hh.faults,
      hh.captures, hh.memory⟩ rfl hidle
    have hbank : s.banks.get b = resetSequencer := (hbanks b (mem_allBanks b)).2
    exact congrArg Sequencer.pair hbank
  · exact h

/-! ### MEMORY_DEVICE_CHANGE (R96) -/

theorem State.Inv.spoil (h : s.Inv) (address : Nat) (value : Byte) : (s.setMemory (s.memory.spoilByte address value)).Inv := by
  have hh := h.holds
  exact State.Holds.inv_of_banks ⟨hh.lists.congr rfl rfl rfl, hh.places.congr rfl rfl,
    hh.work.congr rfl rfl (fun _ => rfl) (fun _ => rfl) rfl rfl, hh.control.congr rfl rfl rfl rfl, hh.grid, hh.faults,
    hh.captures, Memory.wf_spoilByte _ _ hh.memory⟩ h rfl rfl fun _ => h.quiet

end

end Sys2Proof.Machine
end

section
/-! SUPPORT. The commands of the slot scheduler, of the results, of the boundary and of the sync and capture unit keep the invariant (R12, R20,
R66, R129 to R132, R144 to R151). -/

namespace Sys2Proof.Machine

section
variable {s : State}

/-! ### Slot starts, results and slot ends (R12, R20) -/

theorem State.Inv.startSlot (h : s.Inv) (ht : s.scheduler.timer = .starting) : s.startSlot.Inv :=
  (h.holds.startSlot h.idle ht).inv_of_running s.startSlot_timer

theorem State.Inv.startIfDue (h : s.Inv) : s.startIfDue.Inv := by
  unfold State.startIfDue
  split
  · exact h.startSlot ‹_›
  · exact h

theorem State.timer_of_inSlot (h : s.inSlot = true) : s.scheduler.timer = .running := of_decide_eq_true h

theorem State.Inv.result (h : s.Inv) (ht : s.inSlot = true) (b : Bank) : (s.settle.endBank b).Inv := by
  refine (h.holds.settle.endBank b).inv_of_running ?_
  rw [(State.endBank_frame _ b).scheduler, s.settle_frame.scheduler, State.timer_of_inSlot ht]

theorem State.Inv.endSlot (h : s.Inv) (ht : s.inSlot = true) (check : DrainCheckOrder) : (s.endSlot check).Inv :=
  (h.holds.endSlot (State.timer_of_inSlot ht) check).inv_of_starting (s.endSlot_timer check) (s.endSlot_banksIdle check)

/-! ### What a boundary leaves due (R66, R129, R132, R149) -/

theorem State.QuietInReset.expirePorts (h : s.QuietInReset) (hs : s.scheduler.timer = .stopped) (turns : List PortId) :
    s.expirePorts turns = s := by
  obtain ⟨hlists, -⟩ := h hs
  refine s.expirePorts_of_none_due turns fun n _ e he => ?_
  rw [(hlists n).1] at he
  cases he

theorem State.Inv.timeout (h : s.Inv) (turns : List PortId) : (s.expirePorts turns).Inv := by
  have hframe := s.expirePorts_frame turns
  refine (h.holds.expirePorts turns).inv_of_banks h (by rw [hframe.scheduler]) hframe.banks fun hs => ?_
  rw [h.quiet.expirePorts hs]
  exact h.quiet

/-- A reaction is due only between a slot end and a slot start (R18). -/
theorem State.Inv.starting_of_due (h : s.Inv) (hd : s.commit.reactionDue = true) : s.scheduler.timer = .starting :=
  (h.position.2 hd).1

theorem State.Inv.swapped (h : s.Inv) (turns : List PortId) : (if s.swapDue then s.swap turns else s).Inv := by
  split
  · rename_i hd
    have hstarting := h.starting_of_due (State.swapDue_iff.mp hd).1
    have hreaction := s.swap_reaction turns
    exact (h.holds.swap h.idle hd turns).inv h hreaction.timer hreaction.operation hreaction.pair
      fun hs => by rw [hstarting] at hs; cases hs
  · exact h

theorem State.Inv.abandoned (h : s.Inv) : (if s.abandonDue then s.abandon else s).Inv := by
  split
  · rename_i hd
    have hstarting : s.scheduler.timer = .starting := by
      simp only [State.abandonDue, Bool.and_eq_true] at hd
      exact h.starting_of_due hd.1.1.1
    exact (h.holds.abandon hd).inv_of_banks h rfl rfl fun hs => by rw [hstarting] at hs; cases hs
  · exact h

theorem State.QuietInReset.loseLock (h : s.QuietInReset) (hs : s.scheduler.timer = .stopped) : s.loseLock = s := by
  obtain ⟨-, -, -, hsync, -⟩ := h hs
  exact s.loseLock_of_not_due (by rw [hsync]; rfl)

theorem State.Inv.syncLost (h : s.Inv) : s.loseLock.Inv := by
  have hframe := s.loseLock_frame
  refine h.holds.loseLock.inv_of_banks h (by rw [hframe.scheduler]) hframe.banks fun hs => ?_
  rw [h.quiet.loseLock hs]
  exact h.quiet

/-! ### SYNC_PULSE (R144 to R146) -/

/-- A pulse that counts takes the unit to LOCKED with the mark set, where no loss of lock and no boundary's reaction is due. -/
theorem State.ControlHolds.pulse {t : State} (h : s.ControlHolds) (hd : s.commit.reactionDue = false)
    (hfree : s.sync.state ≠ .free) (hc : t.commit = s.commit) (hscheduler : t.scheduler = s.scheduler)
    (hstate : t.sync.state = .locked) (hslips : t.sync.slipCount ≤ 255) (hmisses : t.sync.missCount = 0)
    (hlost : t.sync.lostDue = false) : t.ControlHolds := by
  obtain ⟨hplans, hposition, hdrain, hdraining, -, -, hsync, -, -, -, -⟩ := h
  constructor
  · simpa only [State.PlansValid, hc] using hplans
  · simpa only [State.PositionInCycle, State.slots, hc, hscheduler] using hposition
  · simpa only [hc] using hdrain
  · simpa only [hc] using hdraining
  · exact hslips
  · rw [hmisses]
    exact Nat.zero_le 2
  · have henable : s.commit.active.syncEnable ≠ false := fun hoff => hfree (hsync.mpr hoff)
    simp only [State.SyncConsistent, hc, hstate, hlost, hd]
    exact ⟨⟨nofun, fun hoff => absurd hoff henable⟩, fun _ => trivial, fun _ => trivial, nofun, nofun⟩

theorem SyncUnit.slipAfter_le {u : SyncUnit} (h : u.slipCount ≤ 255) : u.slipAfter ≤ 255 := by
  unfold SyncUnit.slipAfter
  split
  · exact Nat.min_le_left _ _
  · exact h

theorem State.Holds.reportSlip (h : s.Holds) : s.reportSlip.Holds := by
  unfold State.reportSlip
  split
  · exact h.report _
  · exact h

theorem State.Holds.setSync (h : s.Holds) {u : SyncUnit} (hcontrol : (s.setSync u).ControlHolds)
    (hcaptures : u.captures.length ≤ Config.captureCapacity) : (s.setSync u).Holds :=
  ⟨h.lists.congr rfl rfl rfl, h.places.congr rfl rfl, h.work.congr rfl rfl (fun _ => rfl) (fun _ => rfl) rfl rfl, hcontrol,
    h.grid, h.faults, hcaptures, h.memory⟩

theorem State.reportSlip_cases (s : State) : s.reportSlip = s ∨ ∃ r, s.reportSlip = s.report r := by
  unfold State.reportSlip
  split
  · exact .inr ⟨_, rfl⟩
  · exact .inl rfl

theorem State.Holds.judgePulse (h : s.Holds) (hl : s.sync.lostDue = false) (hd : s.commit.reactionDue = false) :
    s.judgePulse.Holds := by
  unfold State.judgePulse
  split
  · exact h
  · rename_i hcounts
    have hfree : s.sync.state ≠ .free := fun hfree => hcounts (by simp [State.pulseIgnored, hfree])
    split
    · exact h.setSync (h.control.pulse hd hfree rfl rfl rfl h.control.slips rfl hl) h.captures
    · refine h.reportSlip.setSync ?_ h.captures
      rcases s.reportSlip_cases with heq | ⟨r, heq⟩ <;> rw [heq]
      · exact h.control.pulse hd hfree rfl rfl rfl (SyncUnit.slipAfter_le h.control.slips) rfl hl
      · exact h.control.pulse hd hfree rfl rfl rfl (SyncUnit.slipAfter_le h.control.slips) rfl hl

theorem State.judgePulse_reaction (s : State) : ReactionFrame s s.judgePulse := by
  unfold State.judgePulse State.onTimePulse State.earlyPulse
  split
  · exact .refl s
  · split
    · exact ⟨rfl, rfl, rfl, fun _ => rfl, fun _ => rfl⟩
    · rcases s.reportSlip_cases with heq | ⟨r, heq⟩ <;> rw [heq] <;> exact ⟨rfl, rfl, rfl, fun _ => rfl, fun _ => rfl⟩

theorem State.Holds.beforePulse (h : s.Holds) (hi : s.IdleBetweenSlots) : s.beforePulse.Holds := by
  unfold State.beforePulse
  split
  · exact (h.commitReaction hi []).loseLock
  · exact h.loseLock

theorem State.beforePulse_reaction (s : State) : ReactionFrame s s.beforePulse := by
  unfold State.beforePulse
  split
  · exact (s.commitReaction_reaction []).trans (State.loseLock_reaction _)
  · exact s.loseLock_reaction

theorem State.Inv.beforePulse_reactionDue (h : s.Inv) : s.beforePulse.commit.reactionDue = false := by
  unfold State.beforePulse
  rw [(State.loseLock_frame _).commit]
  split
  · exact s.commitReaction_reactionDue []
  · rename_i hstarting
    by_contra hd
    exact hstarting (h.starting_of_due (by simpa using hd))

theorem State.Inv.syncPulse (h : s.Inv) : s.beforePulse.judgePulse.Inv := by
  have hlost : s.beforePulse.sync.lostDue = false := by
    unfold State.beforePulse
    exact State.lostDue_loseLock _
  have hreaction := s.beforePulse_reaction.trans s.beforePulse.judgePulse_reaction
  refine ((h.holds.beforePulse h.idle).judgePulse hlost h.beforePulse_reactionDue).inv h hreaction.timer hreaction.operation
    hreaction.pair fun hs => ?_
  have hbefore : s.beforePulse = s := by
    rw [State.beforePulse, if_neg (by rw [hs]; nofun), h.quiet.loseLock hs]
  have hignored : s.pulseIgnored = true := by simp [State.pulseIgnored, State.inReset, hs]
  rw [hbefore, State.judgePulse, if_pos hignored]
  exact h.quiet

/-! ### Captures (R151, R180) -/

/-- A capture is no concern of the sync state. -/
theorem State.ControlHolds.setCaptures (h : s.ControlHolds) (l : List CaptureRecord) (overflow : Bool) :
    (s.setSync { s.sync with captures := l, captureOverflow := overflow }).ControlHolds :=
  ⟨h.plans, h.position, h.drain, h.draining, h.slips, h.misses, h.sync⟩

theorem State.Holds.capture (h : s.Holds) (source : CaptureSource) : (s.capture source).Holds := by
  have hcaptures := h.captures
  rw [State.capture, SyncUnit.capture]
  split
  · refine h.setSync (h.control.setCaptures _ s.sync.captureOverflow) ?_
    rw [List.length_append, List.length_singleton]
    omega
  · exact h.setSync (h.control.setCaptures s.sync.captures true) hcaptures

theorem State.Inv.strobeEdge (h : s.Inv) : (if !s.inReset && s.link.strobeCapture then s.capture .strobe else s).Inv := by
  split
  · rename_i htaken
    rw [Bool.and_eq_true, Bool.not_eq_true'] at htaken
    exact (h.holds.capture .strobe).inv_of_banks h rfl rfl (State.quiet_of_not_inReset htaken.1)
  · exact h

end

end Sys2Proof.Machine
end

section
/-! SUPPORT. The frame receiver and the commands of the management link keep the invariant (R123 to R135, R152, R173 to R185). -/

namespace Sys2Proof.Machine

section
variable {s t : State}

/-! ### A frame at a receiver that is not in reset (R173, R187) -/

/-- The invariant holds, and RESET_N is released: only then can a frame stand at the receiver. -/
structure State.Awake (s : State) : Prop where
  inv   : s.Inv
  awake : s.scheduler.timer ≠ .stopped

theorem State.Awake.of_holds (h : s.Awake) (ht : t.Holds) (htimer : t.scheduler.timer = s.scheduler.timer)
    (hb : t.banks = s.banks) : t.Awake :=
  ⟨ht.inv_of_banks h.inv htimer hb fun hs => absurd hs h.awake, htimer ▸ h.awake⟩

theorem State.Holds.setLink (h : s.Holds) {l : LinkController} (hl : l.faults.length ≤ Config.faultCapacity) :
    (s.setLink l).Holds :=
  ⟨h.lists.congr rfl rfl rfl, h.places.congr rfl rfl, h.work.congr rfl rfl (fun _ => rfl) (fun _ => rfl) rfl rfl,
    h.control.congr rfl rfl rfl rfl, h.grid, hl, h.captures, h.memory⟩

theorem State.Awake.setLink (h : s.Awake) {l : LinkController} (hl : l.faults.length ≤ Config.faultCapacity) :
    (s.setLink l).Awake := h.of_holds (h.inv.holds.setLink hl) rfl rfl

theorem State.Awake.answer (h : s.Awake) (status : LinkStatus) (results : List Byte) : (s.answer status results).Awake :=
  h.setLink h.inv.holds.faults

theorem State.Inv.awake_of_receiver (h : s.Inv) (hr : s.link.receiver ≠ .idle) : s.Awake := by
  refine ⟨h, fun hs => ?_⟩
  obtain ⟨-, -, -, -, hidle, -⟩ := h.quiet hs
  exact hr hidle

/-- A command of the link keeps the invariant when its effect does. -/
theorem State.Inv.takeFrame (h : s.Inv) (frame : List Byte) (check : Byte) {effect : State → Effect}
    (heffect : s.Awake → (effect s).state.Awake) : (s.takeFrame frame check effect).Inv := by
  unfold State.takeFrame
  split
  · rename_i hr
    have hawake := h.awake_of_receiver (by rw [hr]; nofun)
    split
    · exact ((heffect hawake).answer _ _).inv
    · exact (hawake.answer _ _).inv
  · exact h

/-! ### FRAME_OPEN, SELECT_RELEASE, REPLY_SPENT and BAD_COMMAND (R173) -/

/-- The link changes, its faults stay, and in reset the receiver stays idle. -/
theorem State.Inv.setLink (h : s.Inv) {l : LinkController} (hf : l.faults = s.link.faults)
    (hr : s.scheduler.timer = .stopped → l.receiver = .idle) : (s.setLink l).Inv := by
  refine (h.holds.setLink (hf ▸ h.holds.faults)).inv_of_banks h rfl rfl fun hs _ => ?_
  obtain ⟨hlists, hbanks, hcommit, hsync, -, hfaults⟩ := h.quiet hs
  exact ⟨hlists, hbanks, hcommit, hsync, hr hs, hf.trans hfaults⟩

theorem State.Inv.frameOpen (h : s.Inv) : (if s.link.selectActive then s else s.setLink { s.link with
    selectActive := true, receiver := if s.inReset then s.link.receiver else .receiving }).Inv := by
  split
  · exact h
  · refine h.setLink rfl fun hs => ?_
    obtain ⟨-, -, -, -, hidle, -⟩ := h.quiet hs
    exact (if_pos (State.inReset_iff.mpr hs)).trans hidle

theorem State.Inv.selectRelease (h : s.Inv) :
    (s.setLink { s.link with selectActive := false, receiver := .idle }).Inv := h.setLink rfl fun _ => rfl

theorem State.Inv.replySpent (h : s.Inv) {reply : List Byte} (hr : s.link.receiver = .replying reply) :
    (s.setLink { s.link with receiver := .spent }).Inv :=
  ((h.awake_of_receiver (by rw [hr]; nofun)).setLink (l := { s.link with receiver := .spent }) h.holds.faults).inv

/-! ### Reads of records, captures and settings (R152, R176, R179, R180, R183) -/

/-- The commit controller changes, but not the plan in force and no reaction that is due. -/
theorem State.ControlHolds.setCommit (h : s.ControlHolds) {c : CommitController} (hactive : c.active = s.commit.active)
    (hdue : c.reactionDue = s.commit.reactionDue) (hplans : (s.setCommit c).PlansValid) (hdrain : c.drainCount ≤ 4096)
    (hdraining : c.state = .draining → c.drainCount ≤ c.active.drainLimit) : (s.setCommit c).ControlHolds := by
  obtain ⟨-, hposition, -, -, hslips, hmisses, hsync⟩ := h
  refine ⟨hplans, ?_, hdrain, hdraining, hslips, hmisses, ?_⟩
  · simpa only [State.PositionInCycle, State.slots, State.setCommit, hactive, hdue] using hposition
  · simpa only [State.SyncConsistent, State.setCommit, hactive, hdue] using hsync

theorem State.Awake.setCommit (h : s.Awake) {c : CommitController} (hactive : c.active = s.commit.active)
    (hcontrol : (s.setCommit c).ControlHolds) : (s.setCommit c).Awake :=
  h.of_holds (h.inv.holds.of_control hcontrol hactive rfl) rfl rfl

/-- The commit result record is no part of the invariant (R140). -/
theorem State.Awake.setRecord (h : s.Awake) (r : CommitRecord) : (s.setCommit { s.commit with record := r }).Awake := by
  have hcontrol := h.inv.holds.control
  exact h.setCommit rfl (hcontrol.setCommit rfl rfl hcontrol.plans hcontrol.drain hcontrol.draining)

theorem State.Awake.setCaptures (h : s.Awake) {l : List CaptureRecord} (hl : l.length ≤ Config.captureCapacity)
    (overflow : Bool) : (s.setSync { s.sync with captures := l, captureOverflow := overflow }).Awake :=
  h.of_holds (h.inv.holds.setSync (h.inv.holds.control.setCaptures l overflow) hl) rfl rfl

theorem State.Awake.clearReported (h : s.Awake) : s.clearReported.Awake := by
  have hcleared := (h.setRecord { s.commit.record with unreported := false }).setCaptures h.inv.holds.captures false
  exact hcleared.setLink h.inv.holds.faults

theorem State.Awake.popFault (h : s.Awake) : s.popFault.state.Awake := by
  have hfaults := h.inv.holds.faults
  unfold State.popFault
  split
  · exact h
  · rename_i r rest heq
    rw [heq, List.length_cons] at hfaults
    exact h.setLink (by exact (Nat.le_succ _).trans hfaults)

theorem State.Awake.popCapture (h : s.Awake) : s.popCapture.state.Awake := by
  have hcaptures := h.inv.holds.captures
  unfold State.popCapture
  split
  · exact h
  · rename_i r rest heq
    rw [heq, List.length_cons] at hcaptures
    exact h.setCaptures ((Nat.le_succ _).trans hcaptures) s.sync.captureOverflow

theorem State.Awake.capture (h : s.Awake) (source : CaptureSource) : (s.capture source).Awake :=
  h.of_holds (h.inv.holds.capture source) rfl rfl

theorem State.Awake.writeMask (h : s.Awake) (mask : Byte) : (s.writeMask mask).state.Awake := by
  unfold State.writeMask
  split
  · exact h.setLink h.inv.holds.faults
  · exact h

theorem State.Awake.writeStrobe (h : s.Awake) (setting : Byte) : (s.writeStrobe setting).state.Awake := by
  unfold State.writeStrobe
  split
  · exact h.setLink h.inv.holds.faults
  · exact h.setLink h.inv.holds.faults
  · exact h

theorem State.Awake.readPlan (h : s.Awake) (plan item : Byte) : (s.readPlan plan item).state.Awake := by
  unfold State.readPlan
  split <;> exact h

/-! ### Staged edits (R123 to R125) -/

/-- Without a commit pending the STAGED plan may be any plan in range. -/
theorem State.Awake.editStaged (h : s.Awake) {edited : Option Plan} (hrange : ∀ p, edited = some p → p.InRange) :
    (s.editStaged edited).state.Awake := by
  unfold State.editStaged
  split
  · exact h
  · rename_i hnone
    rw [ne_eq, not_not] at hnone
    split
    · exact h
    · rename_i p
      have hcontrol := h.inv.holds.control
      obtain ⟨hactive, hactiveRange, -, -, -, -⟩ := hcontrol.plans
      refine h.setCommit rfl (hcontrol.setCommit rfl rfl ⟨hactive, hactiveRange, hrange p rfl, ?_, ?_, ?_⟩ hcontrol.drain
        hcontrol.draining)
      · exact fun hpending => absurd hnone hpending
      · exact fun hwaiting => absurd (hnone.symm.trans hwaiting) nofun
      · exact fun hdraining => absurd (hnone.symm.trans hdraining) nofun

theorem Plan.InRange.withCode {p q : Plan} (h : p.InRange) {row position code : Byte}
    (hq : p.withCode row position code = some q) : q.InRange := by
  unfold Plan.withCode at hq
  split at hq
  · cases hq
    exact h
  · cases hq

theorem Plan.InRange.withRegion {p q : Plan} (h : p.InRange) {index : Byte} {image : Vector Byte 6}
    (hq : p.withRegion index image = some q) : q.InRange := by
  unfold Plan.withRegion at hq
  split at hq
  · cases hq
    exact h
  · cases hq

theorem Plan.InRange.withLimit {p q : Plan} (h : p.InRange) {port limit : Byte} (hq : p.withLimit port limit = some q) :
    q.InRange := by
  obtain ⟨n, -, rfl⟩ := Option.map_eq_some_iff.mp hq
  exact h

/-- The general fields of an image hold a drain limit in range (R190). -/
theorem drainLimit_of_generalOfImage {image : Vector Byte 4} {f : GeneralFields} (h : generalOfImage image = some f) :
    1 ≤ f.drainLimit ∧ f.drainLimit ≤ 4095 := by
  unfold generalOfImage at h
  split at h
  · cases h
  · split at h
    · rename_i hvalid
      simp only [Bool.and_eq_true, decide_eq_true_eq] at hvalid
      cases h
      exact ⟨hvalid.1.2, hvalid.2⟩
    · cases h

theorem Plan.inRange_withGeneral {p q : Plan} {image : Vector Byte 4} (hq : p.withGeneral image = some q) : q.InRange := by
  obtain ⟨f, hf, rfl⟩ := Option.map_eq_some_iff.mp hq
  exact drainLimit_of_generalOfImage hf

/-! ### COMMIT and CANCEL-COMMIT (R128, R135) -/

theorem State.Awake.tryCommit (h : s.Awake) : s.tryCommit.state.Awake := by
  have hcontrol := h.inv.holds.control
  obtain ⟨hactive, hactiveRange, hstagedRange, -, -, -⟩ := hcontrol.plans
  unfold State.tryCommit
  split
  · exact h
  · split
    · exact h.setRecord _
    · rename_i hvalid
      split
      · rename_i hchange
        have hgeometry : s.commit.staged.geometry ≠ s.commit.active.geometry := of_decide_eq_true hchange
        exact h.setCommit rfl (hcontrol.setCommit rfl rfl
          ⟨hactive, hactiveRange, hstagedRange, fun _ => hvalid, nofun, fun _ => hgeometry⟩ (Nat.zero_le _) fun _ => Nat.zero_le _)
      · rename_i hchange
        have hgeometry : s.commit.staged.geometry = s.commit.active.geometry := by
          simpa [CommitController.geometryChange] using hchange
        exact h.setCommit rfl (hcontrol.setCommit rfl rfl
          ⟨hactive, hactiveRange, hstagedRange, fun _ => hvalid, fun _ => hgeometry, nofun⟩ hcontrol.drain nofun)

theorem State.Awake.endCommit (h : s.Awake) (o : CommitOutcome) : (s.endCommit o).Awake := by
  unfold State.endCommit
  split
  · exact h
  · have hcontrol := h.inv.holds.control
    obtain ⟨hactive, hactiveRange, hstagedRange, -, -, -⟩ := hcontrol.plans
    exact h.setCommit rfl (hcontrol.setCommit rfl rfl
      ⟨hactive, hactiveRange, hstagedRange, fun hne => absurd rfl hne, nofun, nofun⟩ hcontrol.drain nofun)

theorem State.Awake.cancel (h : s.Awake) : s.cancel.state.Awake := by
  unfold State.cancel
  split
  · exact h
  · exact h.endCommit .cancelled

/-! ### TRAFFIC-RESET (R185) -/

theorem State.Awake.clearTraffic (h : s.Awake) : s.clearTraffic.Awake := by
  have hh := h.inv.holds
  have htraffic := hh.traffic.clearTraffic
  exact h.of_holds ⟨htraffic.lists, htraffic.places, htraffic.work, hh.control.congr rfl rfl rfl rfl, hh.grid, hh.faults,
    hh.captures, hh.memory⟩ rfl rfl

theorem State.Awake.forceDue (h : s.Awake) : (s.setScheduler { s.scheduler with forcedDue := true }).Awake := by
  have hh := h.inv.holds
  exact h.of_holds ⟨hh.lists.congr rfl rfl rfl, hh.places.congr rfl rfl,
    hh.work.congr rfl rfl (fun _ => rfl) (fun _ => rfl) rfl rfl, hh.control.congr rfl rfl rfl rfl, hh.grid, hh.faults,
    hh.captures, hh.memory⟩ rfl rfl

theorem State.Awake.startIfDue (h : s.Awake) : s.startIfDue.Awake := by
  refine ⟨h.inv.startIfDue, ?_⟩
  unfold State.startIfDue
  split
  · rw [s.startSlot_timer]
    nofun
  · exact h.awake

theorem State.Awake.trafficReset (h : s.Awake) : s.trafficReset.Awake := (h.clearTraffic.endCommit .abortedByReset).forceDue

end

end Sys2Proof.Machine
end

section
/-! SUPPORT. Every command keeps the invariant, and the statement about every step (O60). -/

namespace Sys2Proof.Machine

/-- An outcome whose next state, if it has one, meets the invariant. -/
def KeepsInv : Host.Outcome State Fault Refusal → Prop
  | .next t => t.Inv
  | .fault _ | .refused _ => True

theorem KeepsInv.next {o : Host.Outcome State Fault Refusal} (h : KeepsInv o) {t : State} (ho : o = .next t) : t.Inv := by
  rw [ho] at h
  exact h

section
variable {s : State}

theorem State.Inv.memoryDeviceChange (h : s.Inv) (address : Address) (value : Byte) :
    KeepsInv (execMemoryDeviceChange address value s) := by
  unfold execMemoryDeviceChange
  split
  · exact h.spoil _ _
  · trivial

/-- A slot end of whatever kind is taken while a slot runs, and is otherwise nothing. -/
theorem State.Inv.slotEndIf (h : s.Inv) {taken : Bool} (ht : taken = true → s.inSlot = true) (check : DrainCheckOrder) :
    (if taken then s.endSlot check else s).Inv := by
  split
  · exact h.endSlot (ht ‹_›) check
  · exact h

theorem State.Inv.badCommand (h : s.Inv) (code : Byte) : KeepsInv (execBadCommand code s) := by
  unfold execBadCommand
  split
  · rename_i hr
    exact ((h.awake_of_receiver (by rw [hr.1]; nofun)).answer _ _).inv
  · exact h

theorem State.Inv.replySpentIf (h : s.Inv) : KeepsInv (execReplySpent s) := by
  unfold execReplySpent
  split
  · exact h.replySpent ‹_›
  all_goals exact h

theorem State.Inv.slotStart (h : s.Inv) : KeepsInv (execSlotStart s) := h.startIfDue

/-- A staged edit keeps the invariant where every plan it can leave is in range (R190). -/
theorem State.Inv.editFrame (h : s.Inv) (frame : List Byte) (check : Byte) {edited : State → Option Plan}
    (hrange : ∀ p, s.commit.staged.InRange → s.commit.active.InRange → edited s = some p → p.InRange) :
    (s.takeFrame frame check fun t => t.editStaged (edited t)).Inv := by
  obtain ⟨-, hactive, hstaged, -⟩ := h.plans
  exact h.takeFrame frame check fun hawake => hawake.editStaged fun p => hrange p hstaged hactive

theorem State.Inv.exec (h : s.Inv) (i : Instr) : KeepsInv (exec i s) := by
  cases i with
  | powerOnReset => exact h.powerOn
  | resetNRelease => exact h.resetNRelease
  | portReset n => exact h.portReset n
  | portResetRelease n => exact h.portResetRelease n
  | acceptance n m => exact h.acceptance m
  | responseTransfer n => exact h.responseTransfer n
  | memoryDeviceChange address value => exact h.memoryDeviceChange address value
  | slotStart => exact h.slotStart
  | slotEnd check => exact h.slotEndIf id check
  | truncation check =>
    exact h.slotEndIf (fun ht => by rw [Bool.and_eq_true, Bool.and_eq_true] at ht; exact ht.1.1) check
  | forcedBoundary => exact h.slotEndIf (fun ht => by rw [Bool.and_eq_true] at ht; exact ht.1) .checkAfterExpiry
  | readComplete b | writeComplete b | atomicReadComplete b | atomicPairEnd b | secondaryWriteComplete b
  | recoveryReadComplete b =>
    simp only [Machine.exec, execReadComplete, execWriteComplete, execAtomicReadComplete, execAtomicPairEnd,
      execSecondaryWriteComplete, execRecoveryReadComplete]
    split
    · exact h.result ‹_› b
    · exact h
  | timeout turns => exact h.timeout turns
  | swapped turns => exact h.swapped turns
  | abandoned => exact h.abandoned
  | syncLost => exact h.syncLost
  | syncPulse => exact h.syncPulse
  | strobeEdge => exact h.strobeEdge
  | frameOpen => exact h.frameOpen
  | selectRelease => exact h.selectRelease
  | replySpent => exact h.replySpentIf
  | badCommand code => exact h.badCommand code
  | readStatus check => exact h.takeFrame _ check fun ha => ha.clearReported
  | readFault check => exact h.takeFrame _ check fun ha => ha.popFault
  | readCapture check => exact h.takeFrame _ check fun ha => ha.popCapture
  | captureNow check => exact h.takeFrame _ check fun ha => ha.capture .command
  | readPlan plan item check => exact h.takeFrame _ check fun ha => ha.readPlan plan item
  | commit check => exact h.takeFrame _ check fun ha => ha.tryCommit
  | cancelCommit check => exact h.takeFrame _ check fun ha => ha.cancel
  | setAlertMask mask check => exact h.takeFrame _ check fun ha => ha.writeMask mask
  | setStrobe setting check => exact h.takeFrame _ check fun ha => ha.writeStrobe setting
  | trafficReset check => exact h.takeFrame _ check fun ha => ha.startIfDue.trafficReset
  | writeGrid row position code check => exact h.editFrame _ check fun _ hstaged _ hp => hstaged.withCode hp
  | writeRegion index image check => exact h.editFrame _ check fun _ hstaged _ hp => hstaged.withRegion hp
  | writeGeometry image check => exact h.editFrame _ check fun _ _ _ hp => Plan.inRange_withGeneral hp
  | writePortLimit port limit check => exact h.editFrame _ check fun _ hstaged _ hp => hstaged.withLimit hp
  | restage check => exact h.editFrame _ check fun _ _ hactive hp => Option.some.inj hp ▸ hactive

theorem State.Inv.step (h : s.Inv) : KeepsInv (step s) := by
  unfold Machine.step
  split
  · exact h
  · exact (h.setPending _).exec _

end

end Sys2Proof.Machine

namespace Sys2Proof.Proofs

open Sys2Proof.Machine

/-- Settles O60: every command keeps the lists, the places, the work of the banks, the controllers and the grid, and what holds between slots
and in reset. -/
theorem invariantIsKept : Obligations.InvariantIsKept := fun _ _ h hstep => h.step.next hstep

end Sys2Proof.Proofs
end

section
/-! SUPPORT. The linked pairs of a row as an `∃` over positions, and the last of the acceptance checks: what is decided of a request that
passed the region check (03 R42, R43; 10 R161, R164). -/

namespace Sys2Proof.Machine

/-! ### The linked pairs of a grid (R42) -/

theorem mem_allPositions_iff (k : Nat) : k ∈ allPositions ↔ k < 8 := by
  simp only [allPositions, List.mem_cons, List.not_mem_nil, or_false]
  omega

theorem CycleLength.slots_le_eight (l : CycleLength) : l.slots ≤ 8 := by
  cases l <;> decide

theorem any_isPairAt_iff (r : Row) (l : CycleLength) (n : PortId) : allPositions.any (isPairAt r l.slots n) = true ↔
    ∃ k, k + 1 < l.slots ∧ r.codeAt k = .port n ∧ r.codeAt (k + 1) = .port n := by
  simp only [List.any_eq_true, isPairAt_iff, mem_allPositions_iff]
  refine exists_congr fun k => and_iff_right_of_imp fun ⟨hk, _⟩ => ?_
  have := l.slots_le_eight
  omega

theorem hasPair_iff_of_used {p : Plan} {b : Bank} (h : rowUsed p.geometry.split b = true) (n : PortId) : hasPair p n b = true ↔
    ∃ k, k + 1 < p.geometry.cycleLength.slots ∧ (p.grid.get b).codeAt k = .port n
      ∧ (p.grid.get b).codeAt (k + 1) = .port n := by
  rw [hasPair, h, Bool.true_and, any_isPairAt_iff]

/-! ### The last acceptance check (R43, R161) -/

theorem isAtomicKind_iff (k : RequestKind) : isAtomicKind k = true ↔ k = .swap ∨ k = .fetchAdd := by
  cases k <;> simp [isAtomicKind]

theorem not_isAtomicKind_iff (k : RequestKind) : ¬ isAtomicKind k = true ↔ k = .read ∨ k = .write := by
  cases k <;> simp [isAtomicKind]

/-- What the first three checks let pass is left to the NO-LINK check (R161). -/
theorem acceptanceDecision_of_allowed {p : Plan} {n : PortId} {m : RequestMessage} {b : Bank} {mirror : Bool}
    (hformed : isMalformed p.geometry m = false) (hbank : bankOf p.geometry m.address = some b)
    (hallowed : regionCheck p n m.kind m.address m.length.toNat = .allowed mirror) : acceptanceDecision p n m =
      if isAtomicKind m.kind = true ∧ hasPair p n b = false then .refuse .noLink .noLink (some b) none
      else .accept b mirror := by
  simp only [acceptanceDecision, hformed, hbank, hallowed, Bool.false_eq_true, if_false, Bool.and_eq_true, Bool.not_eq_true']

end Sys2Proof.Machine

namespace Sys2Proof.Proofs

open Sys2Proof.Machine

/-- Settles O14: the bank of an address has a used row, so the check asks for a pair of positions of that row, and of an atomic only. -/
theorem noLinkCheck : Obligations.NoLinkCheck := by
  intro p n m b mirror hformed hbank hallowed
  obtain ⟨hused, -⟩ := (bankOf_eq_some_iff p.geometry m.address b).mp hbank
  dsimp only
  rw [acceptanceDecision_of_allowed hformed hbank hallowed, ← hasPair_iff_of_used hused n, ← not_isAtomicKind_iff,
    ← isAtomicKind_iff]
  refine ⟨fun hplain => if_neg fun h => hplain h.1, fun _ hpair => if_neg fun h => ?_,
    fun hatomic hpair => if_pos ⟨hatomic, Bool.eq_false_of_not_eq_true hpair⟩⟩
  rw [hpair] at h
  exact absurd h.2 (by decide)

end Sys2Proof.Proofs
end

section
/-! SUPPORT. The state after reset meets the invariant (R69, R94, R187). -/

namespace Sys2Proof.Machine

/-- The lists, places and work after reset are those that RESET_N leaves at any time; only the slot timer has been released (log entry 10). -/
theorem State.reset_holds : State.reset.Holds where
  lists := State.reset.powerOn_listsHold.congr rfl rfl rfl
  places := State.reset.powerOn_placesHold.congr rfl rfl
  work := .of_empty State.reset.powerOn_queue (fun b => congrArg Backlog.entries (State.reset.powerOn_mirror b))
    (fun b => congrArg Sequencer.operation (State.reset.powerOn_bank b))
    fun b => congrArg Sequencer.pair (State.reset.powerOn_bank b)
  control := State.reset.powerOn_controlHolds.of_not_due rfl rfl rfl State.reset.slots_pos
  grid := .of_no_pairs fun b => congrArg Sequencer.pair (State.reset.powerOn_bank b)
  faults := Nat.zero_le _
  captures := Nat.zero_le _
  memory := Memory.wf_empty

theorem State.reset_banksIdle : State.reset.BanksIdle := by
  intro b _
  rw [show State.reset.banks.get b = resetSequencer from State.reset.powerOn_bank b]
  exact ⟨rfl, rfl⟩

end Sys2Proof.Machine

namespace Sys2Proof.Proofs

open Sys2Proof.Machine

/-- Settles O6: after reset the first slot is about to start, with empty lists, idle banks and the default plan. -/
theorem resetMeetsTheInvariant : Obligations.ResetMeetsTheInvariant := State.reset_holds.inv_of_starting rfl State.reset_banksIdle

end Sys2Proof.Proofs
end

section
/-! SUPPORT. A queue and its completion list seen by their references: every command but ACCEPTANCE and POWER_ON_RESET takes the same references
out of both or none, in their order (R56, R58, R158), and so keeps the tie between them; and the statement about it (O59). -/

namespace Sys2Proof.Machine

/-! ### The lists of one port -/

/-- The queue and the completion list of a port have gone from `q` and `l` to `q'` and `l'`: the references that are kept are the same in the
queue and among the PENDING ones, in their order, and the completion list has gained none. -/
structure RefsKept (q q' : List QueueEntry) (l l' : List CompletionEntry) : Prop where
  kept : ∃ keep : Nat → Bool, q'.map (·.ref) = (q.map (·.ref)).filter keep ∧ pendingRefs l' = (pendingRefs l).filter keep
  list : (l'.map (·.ref)).Sublist (l.map (·.ref))

section
variable {q q' q'' : List QueueEntry} {l l' l'' : List CompletionEntry}

/-- A change of queue entries that keeps their references. -/
theorem RefsKept.of_queue (h : q'.map (·.ref) = q.map (·.ref)) (l : List CompletionEntry) : RefsKept q q' l l :=
  ⟨⟨fun _ => true, by simp [h], by simp⟩, .refl _⟩

theorem RefsKept.refl (q : List QueueEntry) (l : List CompletionEntry) : RefsKept q q l l := .of_queue rfl l

theorem RefsKept.trans (h : RefsKept q q' l l') (k : RefsKept q' q'' l' l'') : RefsKept q q'' l l'' := by
  obtain ⟨⟨keep, hq, hl⟩, hlist⟩ := h
  obtain ⟨⟨keep', hq', hl'⟩, hlist'⟩ := k
  exact ⟨⟨_, by rw [hq', hq, List.filter_filter], by rw [hl', hl, List.filter_filter]⟩, hlist'.trans hlist⟩

/-- A reset empties both lists (R70, R170). -/
theorem RefsKept.empty (q : List QueueEntry) (l : List CompletionEntry) : RefsKept q [] l [] :=
  ⟨⟨fun _ => false, by simp, by simp [pendingRefs]⟩, List.nil_sublist _⟩

/-- The end of a request takes its reference from the queue and from the PENDING ones (4.4). -/
theorem RefsKept.finish (q : List QueueEntry) (l : List CompletionEntry) (ref : Nat) (r : CompletionResult) :
    RefsKept q (q.filter fun e => !e.hasRef ref) l (l.map fun c => c.finish ref r) := by
  refine ⟨⟨fun x => decide (x ≠ ref), ?_, pendingRefs_finish l ref r⟩, ?_⟩
  · rw [List.filter_map]
    congr 1
    exact List.filter_congr fun e _ => by simp [QueueEntry.hasRef]
  · simp [Function.comp_def]

/-- A response that is transferred takes a DONE entry from the front of the completion list (R155). -/
theorem RefsKept.transfer (q : List QueueEntry) {c : CompletionEntry} (rest : List CompletionEntry) (h : c.state ≠ .pending) :
    RefsKept q q (c :: rest) rest :=
  ⟨⟨fun _ => true, by simp, by simp [pendingRefs, h]⟩, List.sublist_cons_self _ _⟩

end

/-! ### The lists of every port -/

/-- The references of every port have been kept or have left its lists together, and none has been given out. -/
structure RefsFrame (s t : State) : Prop where
  nextRef : t.nextRef = s.nextRef
  lists   : ∀ n : PortId, RefsKept (s.queues.get n) (t.queues.get n) (s.ports.get n).completions (t.ports.get n).completions

theorem RefsFrame.trans {s t u : State} (h : RefsFrame s t) (k : RefsFrame t u) : RefsFrame s u :=
  ⟨k.nextRef.trans h.nextRef, fun n => (h.lists n).trans (k.lists n)⟩

/-- Queues that keep their references, beside completion lists that stay as they are. -/
theorem RefsFrame.of_queues {s t : State} (hq : ∀ n, (t.queues.get n).map (·.ref) = (s.queues.get n).map (·.ref))
    (hp : t.ports = s.ports) (hn : t.nextRef = s.nextRef) : RefsFrame s t :=
  ⟨hn, fun n => by rw [hp]; exact .of_queue (hq n) _⟩

/-- What touches neither queues nor ports. -/
theorem RefsFrame.of_eq {s t : State} (hq : t.queues = s.queues) (hp : t.ports = s.ports) (hn : t.nextRef = s.nextRef) :
    RefsFrame s t := .of_queues (fun _ => by rw [hq]) hp hn

theorem RefsFrame.refl (s : State) : RefsFrame s s := .of_eq rfl rfl rfl

theorem RefsFrame.of_ite {s t : State} {p : Prop} [Decidable p] (h : RefsFrame s t) : RefsFrame s (if p then t else s) := by
  split
  · exact h
  · exact .refl s

/-- A change of the two lists of one port. -/
theorem State.setLists_refsFrame {s : State} {n : PortId} {q : List QueueEntry} {l : List CompletionEntry}
    (h : RefsKept (s.queues.get n) q (s.ports.get n).completions l) : RefsFrame s ((s.setQueue n q).setCompletions n l) := by
  refine ⟨rfl, fun m => ?_⟩
  by_cases hm : m = n
  · subst hm
    simpa using h
  · simpa [PerPort.get_set_of_ne _ hm] using RefsKept.refl _ _

section
variable (s : State)

/-! ### The ends of requests (4.4, R49, R66) -/

theorem State.finishEntry_refsFrame (n : PortId) (ref : Nat) (r : CompletionResult) : RefsFrame s (s.finishEntry n ref r) :=
  State.setLists_refsFrame (.finish _ _ ref r)

theorem State.report_refsFrame (r : FaultRecord) : RefsFrame s (s.report r) := .of_eq rfl rfl rfl

theorem State.failEntry_refsFrame (n : PortId) (e : QueueEntry) (status : ResponseStatus) (kind : FaultKind) (position : Nat) :
    RefsFrame s (s.failEntry n e status kind position) := (s.report_refsFrame _).trans (State.finishEntry_refsFrame _ _ _ _)

theorem State.finishAccess_refsFrame (a : PortAccess) (r : CompletionResult) : RefsFrame s (s.finishAccess a r) := by
  unfold State.finishAccess
  split
  · exact .refl s
  · exact s.finishEntry_refsFrame _ _ _

theorem State.expireOldest_refsFrame (n : PortId) : RefsFrame s (s.expireOldest n) := by
  unfold State.expireOldest
  split
  · exact s.failEntry_refsFrame _ _ _ _ _
  · exact .refl s

theorem State.expirePort_refsFrame (n : PortId) : RefsFrame s (s.expirePort n) :=
  foldl_of_step .refl .trans (fun t _ => t.expireOldest_refsFrame n) _ s

theorem State.expirePorts_refsFrame (turns : List PortId) : RefsFrame s (s.expirePorts turns) :=
  (foldl_of_step .refl .trans State.expireOldest_refsFrame turns s).trans (foldl_of_step .refl .trans State.expirePort_refsFrame turns _)

theorem State.completeNoLink_refsFrame (n : PortId) : RefsFrame s (s.completeNoLink n) := by
  unfold State.completeNoLink
  split
  · exact s.failEntry_refsFrame _ _ _ _ _
  · exact .refl s

theorem State.completeNoLinks_refsFrame (n : PortId) : RefsFrame s (s.completeNoLinks n) :=
  foldl_of_step .refl .trans (fun t _ => t.completeNoLink_refsFrame n) _ s

theorem State.noLinkCompletions_refsFrame (turns : List PortId) : RefsFrame s (s.noLinkCompletions turns) :=
  (foldl_of_step .refl .trans State.completeNoLink_refsFrame turns s).trans
    (foldl_of_step .refl .trans State.completeNoLinks_refsFrame allPorts _)

/-! ### What a boundary leaves due (R129 to R132, R149) -/

theorem State.loseLock_refsFrame : RefsFrame s s.loseLock := .of_ite (.of_eq rfl rfl rfl)

theorem State.settle_refsFrame : RefsFrame s s.settle :=
  s.loseLock_refsFrame.trans (foldl_of_step .refl .trans State.expirePort_refsFrame allPorts _)

theorem State.geometryReactions_refsFrame : RefsFrame s s.geometryReactions := .of_eq rfl rfl rfl

theorem State.swap_refsFrame (turns : List PortId) : RefsFrame s (s.swap turns) := by
  have installed (u : SyncUnit) : RefsFrame s (s.loseLock.installPlan.setSync u) := s.loseLock_refsFrame.trans (.of_eq rfl rfl rfl)
  unfold State.swap
  dsimp only
  split
  · exact (installed _).trans (State.geometryReactions_refsFrame _)
  · exact (installed _).trans (State.noLinkCompletions_refsFrame _ turns)

theorem State.commitReaction_refsFrame (turns : List PortId) : RefsFrame s (s.commitReaction turns) := by
  unfold State.commitReaction
  split
  · exact s.swap_refsFrame turns
  · split
    · exact .of_eq rfl rfl rfl
    · exact .of_ite (.of_eq rfl rfl rfl)

/-! ### Slot starts (R20, R32) -/

/-- Grants change the states of queue entries only. -/
theorem State.decideBanks_refsFrame : RefsFrame s (allBanks.foldl State.decideBank s) := by
  have hframe := s.decideBanks_frame allBanks
  refine .of_queues (fun n => ?_) hframe.ports hframe.nextRef
  have hrequests := congrArg (List.map (·.ref)) ((s.decideBanks_keeps allBanks).requests n)
  rwa [List.map_map, List.map_map] at hrequests

theorem State.startSlot_refsFrame : RefsFrame s s.startSlot := by
  have hready : RefsFrame s (s.loseLock.commitReaction []).openFreedPlaces :=
    (s.loseLock_refsFrame.trans (State.commitReaction_refsFrame _ [])).trans (.of_eq rfl rfl rfl)
  exact (hready.trans (State.decideBanks_refsFrame _)).trans (.of_eq rfl rfl rfl)

/-! ### Results and slot ends (R12, R61, R63) -/

theorem State.updateEntry_refsFrame {f : QueueEntry → QueueEntry} (hf : ∀ x, (f x).ref = x.ref) (n : PortId) (ref : Nat) :
    RefsFrame s (s.updateEntry n ref f) := .of_queues (State.updateEntry_refs hf ref) rfl rfl

theorem State.clearOperation_refsFrame (b : Bank) : RefsFrame s (s.clearOperation b) := .of_eq rfl rfl rfl

theorem State.faultedRead_refsFrame (b : Bank) (a : PortAccess) (e : QueueEntry) : RefsFrame s (s.faultedRead b a e) := by
  have appended : RefsFrame s (s.appendRecovery b e.address e.length a.port e.ref) := .of_eq rfl rfl rfl
  unfold State.faultedRead
  split
  · exact s.failEntry_refsFrame _ _ _ _ _
  · split
    · exact appended.trans (State.updateEntry_refsFrame _ (by exact fun _ => rfl) _ _)
    · exact s.failEntry_refsFrame _ _ _ _ _

theorem State.endRead_refsFrame (b : Bank) (a : PortAccess) : RefsFrame s (s.endRead b a) := by
  have hclear := s.clearOperation_refsFrame b
  unfold State.endRead
  dsimp only
  split
  · exact hclear
  · split
    · exact hclear.trans (State.faultedRead_refsFrame _ _ _ _)
    · exact hclear.trans (State.finishEntry_refsFrame _ _ _ _)

theorem State.primaryWrite_refsFrame (b : Bank) (a : PortAccess) (beats : List WriteBeat) : RefsFrame s (s.primaryWrite b a beats) := by
  unfold State.primaryWrite
  dsimp only
  split <;> exact .of_eq rfl rfl rfl

theorem State.endWrite_refsFrame (b : Bank) (a : PortAccess) (beats : List WriteBeat) : RefsFrame s (s.endWrite b a beats) :=
  ((s.clearOperation_refsFrame b).trans (State.primaryWrite_refsFrame _ _ _ _)).trans (State.finishAccess_refsFrame _ _ _)

theorem State.reportFailedAtomic_refsFrame (a : PortAccess) (r : AtomicResult) : RefsFrame s (s.reportFailedAtomic a r) := by
  unfold State.reportFailedAtomic
  split
  · exact s.report_refsFrame _
  · exact .refl s
  · exact .refl s

theorem State.endAtomicRead_refsFrame (b : Bank) (p : AtomicPair) : RefsFrame s (s.endAtomicRead b p) := by
  have hread : RefsFrame s (s.setSequencer b
    { s.banks.get b with operation := none, pair := some { p with result := some (s.atomicOutcome b p) } }) := .of_eq rfl rfl rfl
  exact (hread.trans (State.reportFailedAtomic_refsFrame _ _ _)).trans (State.updateEntry_refsFrame _ (by exact fun _ => rfl) _ _)

theorem State.failedPairEnd_refsFrame (b : Bank) (a : PortAccess) : RefsFrame s (s.failedPairEnd b a) := by
  have hrelease : RefsFrame s (if a.mirror then s.release (partnerBank b) else s) := .of_ite (.of_eq rfl rfl rfl)
  exact hrelease.trans (State.finishAccess_refsFrame _ _ _)

theorem State.endPair_refsFrame (b : Bank) (p : AtomicPair) : RefsFrame s (s.endPair b p) := by
  have hfree : RefsFrame s (s.setSequencer b { s.banks.get b with operation := none, pair := none }) := .of_eq rfl rfl rfl
  unfold State.endPair
  dsimp only
  split
  · exact (hfree.trans (State.primaryWrite_refsFrame _ _ _ _)).trans (State.finishAccess_refsFrame _ _ _)
  · exact hfree.trans (State.failedPairEnd_refsFrame _ _ _)
  · exact hfree.trans (State.failedPairEnd_refsFrame _ _ _)

theorem State.endRecovery_refsFrame (b : Bank) (offset length : Nat) (n : PortId) (ref : Nat) :
    RefsFrame s (s.endRecovery b offset length n ref) := by
  have hclear : RefsFrame s ((s.clearOperation b).removePerformed b) := .of_eq rfl rfl rfl
  unfold State.endRecovery
  dsimp only
  split
  · exact hclear
  · split
    · exact hclear.trans (State.failEntry_refsFrame _ _ _ _ _ _)
    · exact (hclear.trans (State.report_refsFrame _ _)).trans (State.finishEntry_refsFrame _ _ _ _)

variable {s} in
theorem State.HandsBack.refsFrame {b : Bank} {t : State} (h : s.HandsBack b t) : RefsFrame s t := by
  cases h with
  | nothing => exact .refl s
  | pairEnd => exact s.endPair_refsFrame _ _
  | read => exact s.endRead_refsFrame _ _
  | write => exact s.endWrite_refsFrame _ _ _
  | atomicRead => exact s.endAtomicRead_refsFrame _ _
  | secondary => exact .of_eq rfl rfl rfl
  | recovery => exact s.endRecovery_refsFrame _ _ _ _ _
  | refresh | stray => exact s.clearOperation_refsFrame _

theorem State.endBank_refsFrame (b : Bank) : RefsFrame s (s.endBank b) := (s.endBank_handsBack b).refsFrame

theorem State.endBanks_refsFrame : RefsFrame s s.endBanks := foldl_of_step .refl .trans State.endBank_refsFrame allBanks s

theorem State.ageQueues_refsFrame : RefsFrame s s.ageQueues := by
  refine .of_queues (fun n => ?_) rfl rfl
  rw [State.ageQueues_queue, List.map_map]
  exact List.map_congr_left fun e _ => (e.ageAt_sameTask _).ref

theorem State.markReaction_refsFrame (check : DrainCheckOrder) : RefsFrame s (s.markReaction check) := by
  unfold State.markReaction
  dsimp only
  split
  · exact .of_eq rfl rfl rfl
  · split <;> exact .of_eq rfl rfl rfl

theorem State.cycleReactions_refsFrame (check : DrainCheckOrder) : RefsFrame s (s.cycleReactions check) := by
  have hcycle : RefsFrame s s.nextCycle := .of_eq rfl rfl rfl
  have haged : RefsFrame s (s.nextCycle.ageQueues.setSync s.sync.atBoundary) :=
    (hcycle.trans (State.ageQueues_refsFrame _)).trans (.of_eq rfl rfl rfl)
  exact haged.trans (State.markReaction_refsFrame _ check)

theorem State.clearTraffic_refsFrame : RefsFrame s s.clearTraffic := by
  refine ⟨rfl, fun n => ?_⟩
  rw [State.clearTraffic_queue, State.clearTraffic_port]
  exact .empty _ _

theorem State.forcedBoundary_refsFrame : RefsFrame s s.forcedBoundary := by
  have hdebts : RefsFrame s s.setDebts := .of_eq rfl rfl rfl
  exact (hdebts.trans (State.clearTraffic_refsFrame _)).trans (.of_eq rfl rfl rfl)

theorem State.advance_refsFrame (check : DrainCheckOrder) : RefsFrame s (s.advance check) := by
  have hdebts : RefsFrame s s.setDebts := .of_eq rfl rfl rfl
  unfold State.advance
  split
  · exact .of_eq rfl rfl rfl
  · exact s.cycleReactions_refsFrame check
  · exact hdebts.trans (State.cycleReactions_refsFrame _ check)
  · exact s.forcedBoundary_refsFrame

theorem State.endSlot_refsFrame (check : DrainCheckOrder) : RefsFrame s (s.endSlot check) :=
  (s.settle_refsFrame.trans (State.endBanks_refsFrame _)).trans (State.advance_refsFrame _ check)

/-! ### The ports and the sync unit (R70, R144, R155, R170) -/

theorem State.clearPort_refsFrame (n : PortId) : RefsFrame s (s.clearPort n) :=
  (State.setLists_refsFrame (.empty _ _)).trans (.of_eq rfl rfl rfl)

theorem State.setResetLine_refsFrame (n : PortId) (asserted : Bool) : RefsFrame s (s.setResetLine n asserted) := by
  refine ⟨rfl, fun m => ?_⟩
  rw [State.setResetLine_completions]
  exact .refl _ _

theorem State.transferResponse_refsFrame {n : PortId} {r : ResponseMessage} (h : s.offered n = some r) :
    RefsFrame s (s.setCompletions n (s.ports.get n).completions.tail) := by
  obtain ⟨-, c, rest, hlist, hdone⟩ := State.exists_of_offered h
  have htransfer : RefsFrame s ((s.setQueue n (s.queues.get n)).setCompletions n (s.ports.get n).completions.tail) :=
    State.setLists_refsFrame (by rw [hlist]; exact .transfer _ rest hdone)
  rwa [State.setQueue, PerPort.set_get_self] at htransfer

theorem State.beforePulse_refsFrame : RefsFrame s s.beforePulse :=
  RefsFrame.trans (.of_ite (s.commitReaction_refsFrame [])) (State.loseLock_refsFrame _)

theorem State.judgePulse_refsFrame : RefsFrame s s.judgePulse := by
  have hslip : RefsFrame s s.reportSlip := .of_ite (s.report_refsFrame _)
  unfold State.judgePulse
  split
  · exact .refl s
  · split
    · exact .of_eq rfl rfl rfl
    · exact hslip.trans (.of_eq rfl rfl rfl)

/-! ### The management link (R173 to R185) -/

variable {s} in
theorem State.takeFrame_refsFrame (frame : List Byte) (check : Byte) {effect : State → Effect} (h : RefsFrame s (effect s).state) :
    RefsFrame s (s.takeFrame frame check effect) := by
  unfold State.takeFrame
  split
  · split
    · exact h.trans (.of_eq rfl rfl rfl)
    · exact .of_eq rfl rfl rfl
  · exact .refl s

theorem State.popFault_refsFrame : RefsFrame s s.popFault.state := by
  unfold State.popFault
  split <;> exact .of_eq rfl rfl rfl

theorem State.popCapture_refsFrame : RefsFrame s s.popCapture.state := by
  unfold State.popCapture
  split <;> exact .of_eq rfl rfl rfl

theorem State.editStaged_refsFrame (edited : Option Plan) : RefsFrame s (s.editStaged edited).state := by
  unfold State.editStaged
  split
  · exact .refl s
  · split <;> exact .of_eq rfl rfl rfl

theorem State.readPlan_refsFrame (plan item : Byte) : RefsFrame s (s.readPlan plan item).state := by
  unfold State.readPlan
  split <;> exact .refl s

theorem State.tryCommit_refsFrame : RefsFrame s s.tryCommit.state := by
  unfold State.tryCommit
  split
  · exact .refl s
  · split
    · exact .of_eq rfl rfl rfl
    · split <;> exact .of_eq rfl rfl rfl

theorem State.endCommit_refsFrame (o : CommitOutcome) : RefsFrame s (s.endCommit o) := by
  unfold State.endCommit
  split
  · exact .refl s
  · exact .of_eq rfl rfl rfl

theorem State.cancel_refsFrame : RefsFrame s s.cancel.state := by
  unfold State.cancel
  split
  · exact .refl s
  · exact s.endCommit_refsFrame .cancelled

theorem State.writeMask_refsFrame (mask : Byte) : RefsFrame s (s.writeMask mask).state := by
  unfold State.writeMask
  split <;> exact .of_eq rfl rfl rfl

theorem State.writeStrobe_refsFrame (setting : Byte) : RefsFrame s (s.writeStrobe setting).state := by
  unfold State.writeStrobe
  split <;> exact .of_eq rfl rfl rfl

theorem State.trafficReset_refsFrame : RefsFrame s s.trafficReset :=
  (s.clearTraffic_refsFrame.trans (State.endCommit_refsFrame _ .abortedByReset)).trans (.of_eq rfl rfl rfl)

end

/-! ### The tie (R56, R158) -/

/-- Queue entries and PENDING completion entries are tied under fresh references. -/
structure State.RefsTied (s : State) : Prop where
  tied : s.Tied
  refs : s.RefsFresh

section
variable {s : State}

/-- Taking the same references from both lists keeps them tied, and those left are fresh. -/
theorem State.RefsTied.of_frame (h : s.RefsTied) {t : State} (k : RefsFrame s t) : t.RefsTied := by
  constructor
  · intro n
    obtain ⟨keep, hq, hl⟩ := (k.lists n).kept
    rw [hq, hl, h.tied n]
  · intro n
    obtain ⟨hnodup, hfresh⟩ := h.refs n
    have hlist := (k.lists n).list
    refine ⟨hnodup.sublist hlist, fun c hc => ?_⟩
    obtain ⟨d, hd, hdc⟩ := List.mem_map.mp (hlist.subset (List.mem_map_of_mem hc))
    rw [k.nextRef, ← hdc]
    exact hfresh d hd

theorem State.powerOn_refsTied (s : State) : s.powerOn.RefsTied := ⟨s.powerOn_listsHold.tied, s.powerOn_listsHold.refs⟩

/-- A completion list with an entry of the next reference at its young end (R157, log entry 12). -/
theorem refsFresh_append {l : List CompletionEntry} {next : Nat} (hnodup : (l.map (·.ref)).Nodup) (hfresh : ∀ c ∈ l, c.ref < next)
    {new : CompletionEntry} (hnew : new.ref = next) :
    ((l ++ [new]).map (·.ref)).Nodup ∧ ∀ c ∈ l ++ [new], c.ref < next + 1 := by
  constructor
  · rw [List.map_append, List.nodup_append]
    refine ⟨hnodup, List.nodup_singleton _, fun a ha b hb => ?_⟩
    obtain ⟨c, hc, rfl⟩ := List.mem_map.mp ha
    rw [List.mem_singleton.mp hb]
    exact ((hfresh c hc).trans_eq hnew.symm).ne
  · intro c hc
    rcases List.mem_append.mp hc with hc | hc
    · exact (hfresh c hc).trans (Nat.lt_succ_self _)
    · rw [List.mem_singleton.mp hc, hnew]
      exact Nat.lt_succ_self _

/-- A request taken enters both lists or, refused, the completion list as DONE (R161, R165, R166). -/
theorem State.RefsTied.enroll (h : s.RefsTied) {n : PortId} {m : RequestMessage} {new : List QueueEntry} {c : CompletionState}
    (hnew : new.map (·.ref) = pendingRefs [⟨s.nextRef, m.tag, m.kind, c⟩]) : (s.enroll n m new c).RefsTied := by
  constructor
  · intro k
    rw [State.enroll_queue, State.enroll_port]
    split
    · rw [List.map_append, pendingRefs_append, h.tied k, hnew]
    · exact h.tied k
  · intro k
    obtain ⟨hnodup, hfresh⟩ := h.refs k
    rw [State.enroll_port]
    split
    · exact refsFresh_append hnodup hfresh rfl
    · exact ⟨hnodup, fun x hx => (hfresh x hx).trans (Nat.lt_succ_self _)⟩

theorem State.RefsTied.acceptRequest (h : s.RefsTied) (n : PortId) (m : RequestMessage) (b : Bank) (mirror : Bool) :
    (s.acceptRequest n m b mirror).RefsTied :=
  h.enroll (new := [newEntry s.nextRef m b mirror]) (c := .pending) (by simp [pendingRefs, newEntry])

theorem State.RefsTied.refuseRequest (h : s.RefsTied) (n : PortId) (m : RequestMessage) (status : ResponseStatus) (kind : FaultKind)
    (bank : Option Bank) (region : Option (Fin 16)) : (s.refuseRequest n m status kind bank region).RefsTied := by
  have htaken := (h.of_frame (s.report_refsFrame (s.requestRecord kind n (some m.tag) m.address bank region s.scheduler.position))).enroll
    (n := n) (m := m) (new := []) (c := .done (bareResult status)) (by simp [pendingRefs])
  rw [State.enroll, List.append_nil, State.setQueue, PerPort.set_get_self] at htaken
  exact htaken

theorem State.RefsTied.takeRequest (h : s.RefsTied) (n : PortId) (m : RequestMessage) : (s.takeRequest n m).RefsTied := by
  unfold State.takeRequest
  split
  · exact h.refuseRequest n m _ _ _ _
  · exact h.acceptRequest n m _ _

/-! ### Every command -/

/-- An outcome whose next state, if it has one, is tied. -/
def KeepsRefsTied : Host.Outcome State Fault Refusal → Prop
  | .next t => t.RefsTied
  | .fault _ | .refused _ => True

theorem KeepsRefsTied.next {o : Host.Outcome State Fault Refusal} (h : KeepsRefsTied o) {t : State} (ho : o = .next t) :
    t.RefsTied := by
  rw [ho] at h
  exact h

theorem State.RefsTied.acceptance (h : s.RefsTied) (n : PortId) (m : RequestMessage) : KeepsRefsTied (execAcceptance n m s) := by
  unfold execAcceptance
  split
  · exact h.takeRequest n m
  · exact h

theorem State.RefsTied.responseTransfer (h : s.RefsTied) (n : PortId) : KeepsRefsTied (execResponseTransfer n s) := by
  unfold execResponseTransfer
  split
  · exact h.of_frame (s.transferResponse_refsFrame ‹_›)
  · exact h

theorem State.RefsTied.replySpent (h : s.RefsTied) : KeepsRefsTied (execReplySpent s) := by
  unfold execReplySpent
  split <;> exact h.of_frame (.of_eq rfl rfl rfl)

theorem State.RefsTied.frameOpen (h : s.RefsTied) : KeepsRefsTied (execFrameOpen s) := by
  unfold execFrameOpen
  split <;> exact h.of_frame (.of_eq rfl rfl rfl)

theorem State.RefsTied.memoryDeviceChange (h : s.RefsTied) (address : Address) (value : Byte) :
    KeepsRefsTied (execMemoryDeviceChange address value s) := by
  unfold execMemoryDeviceChange
  split
  · exact h.of_frame (.of_eq rfl rfl rfl)
  · trivial

theorem State.RefsTied.editFrame (h : s.RefsTied) (frame : List Byte) (check : Byte) (edited : State → Option Plan) :
    (s.takeFrame frame check fun t => t.editStaged (edited t)).RefsTied :=
  h.of_frame (State.takeFrame_refsFrame frame check (s.editStaged_refsFrame _))

theorem State.RefsTied.exec (h : s.RefsTied) (i : Instr) : KeepsRefsTied (exec i s) := by
  cases i with
  | powerOnReset => exact s.powerOn_refsTied
  | resetNRelease => exact h.of_frame (.of_ite (.of_eq rfl rfl rfl))
  | portReset n => exact h.of_frame ((s.clearPort_refsFrame n).trans (State.setResetLine_refsFrame _ n true))
  | portResetRelease n => exact h.of_frame (s.setResetLine_refsFrame n false)
  | acceptance n m => exact h.acceptance n m
  | responseTransfer n => exact h.responseTransfer n
  | memoryDeviceChange address value => exact h.memoryDeviceChange address value
  | slotStart => exact h.of_frame (.of_ite s.startSlot_refsFrame)
  | slotEnd check | truncation check => exact h.of_frame (.of_ite (s.endSlot_refsFrame check))
  | forcedBoundary => exact h.of_frame (.of_ite (s.endSlot_refsFrame .checkAfterExpiry))
  | readComplete b | writeComplete b | atomicReadComplete b | atomicPairEnd b | secondaryWriteComplete b
  | recoveryReadComplete b =>
    simp only [Machine.exec, execReadComplete, execWriteComplete, execAtomicReadComplete, execAtomicPairEnd,
      execSecondaryWriteComplete, execRecoveryReadComplete]
    split
    · exact h.of_frame (s.settle_refsFrame.trans (State.endBank_refsFrame _ b))
    · exact h
  | timeout turns => exact h.of_frame (s.expirePorts_refsFrame turns)
  | swapped turns => exact h.of_frame (.of_ite (s.swap_refsFrame turns))
  | abandoned | strobeEdge | badCommand => exact h.of_frame (.of_ite (.of_eq rfl rfl rfl))
  | syncLost => exact h.of_frame s.loseLock_refsFrame
  | syncPulse => exact h.of_frame (s.beforePulse_refsFrame.trans (State.judgePulse_refsFrame _))
  | frameOpen => exact h.frameOpen
  | selectRelease => exact h.of_frame (.of_eq rfl rfl rfl)
  | replySpent => exact h.replySpent
  | readStatus check | captureNow check => exact h.of_frame (State.takeFrame_refsFrame _ check (.of_eq rfl rfl rfl))
  | readFault check => exact h.of_frame (State.takeFrame_refsFrame _ check s.popFault_refsFrame)
  | readCapture check => exact h.of_frame (State.takeFrame_refsFrame _ check s.popCapture_refsFrame)
  | readPlan plan item check => exact h.of_frame (State.takeFrame_refsFrame _ check (s.readPlan_refsFrame plan item))
  | commit check => exact h.of_frame (State.takeFrame_refsFrame _ check s.tryCommit_refsFrame)
  | cancelCommit check => exact h.of_frame (State.takeFrame_refsFrame _ check s.cancel_refsFrame)
  | setAlertMask mask check => exact h.of_frame (State.takeFrame_refsFrame _ check (s.writeMask_refsFrame mask))
  | setStrobe setting check => exact h.of_frame (State.takeFrame_refsFrame _ check (s.writeStrobe_refsFrame setting))
  | trafficReset check =>
    exact h.of_frame (State.takeFrame_refsFrame _ check (RefsFrame.trans (.of_ite s.startSlot_refsFrame) (State.trafficReset_refsFrame _)))
  | writeGrid | writeRegion | writeGeometry | writePortLimit | restage => exact h.editFrame _ _ _

theorem State.RefsTied.step (h : s.RefsTied) : KeepsRefsTied (step s) := by
  unfold Machine.step
  split
  · exact h
  · rename_i c rest _
    have hrest : ({ s with pending := rest } : State).RefsTied := h.of_frame (.of_eq rfl rfl rfl)
    exact hrest.exec c

end

end Sys2Proof.Machine

namespace Sys2Proof.Proofs

open Sys2Proof.Machine

/-- Settles O59: ACCEPTANCE gives the next reference to both lists or to a DONE entry, POWER_ON_RESET empties all lists, and every other command
takes the same references out of a queue and out of the PENDING ones. -/
theorem queuesStayTied : Obligations.QueuesStayTied := by
  intro s t htied hrefs hstep
  have hkept : t.RefsTied := State.RefsTied.step (s := s) ⟨htied, hrefs⟩ |>.next hstep
  exact ⟨hkept.tied, hkept.refs⟩

end Sys2Proof.Proofs
end

section
/-! SUPPORT. What a command does to memory, said once: nothing, the results of a slot end, one result, or a change in the device; and the
statements about memory (O55 to O57). -/

namespace Sys2Proof.Machine

/-! ### What one result does to memory (R96, R97) -/

/-- An operation whose result is read from memory (R61, R45, R86). -/
def Operation.reads : Operation → Bool
  | .portRead _ | .atomicRead _ | .recoveryRead _ _ _ _ => true
  | .portWrite _ _ | .atomicWrite _ _ | .secondaryWrite _ _ | .refresh | .catchUpRefresh => false

/-- What the bank hands back at the slot end is stored: a pair in its second slot, a WRITE, a SECONDARY-WRITE (R46, R62, R79). -/
def Sequencer.EndsInWrite (q : Sequencer) : Prop :=
  (∃ p, q.pair = some p ∧ p.slot = .second) ∨ (∃ a beats, q.operation = some (.portWrite a beats))
    ∨ ∃ offset beats, q.operation = some (.secondaryWrite offset beats)

/-- A bank that reads stores nothing: no pair in its second slot stands beside a read (R26, R44). -/
theorem Sequencer.not_endsInWrite_of_reads {q : Sequencer} {o : Operation} (hq : q.pairHolds = true)
    (ho : q.operation = some o) (hreads : o.reads = true) : ¬ q.EndsInWrite := by
  rintro (⟨p, hp, hslot⟩ | ⟨a, beats, hwrite⟩ | ⟨offset, beats, hwrite⟩)
  · simp only [Sequencer.pairHolds, hp, ho] at hq
    cases o with
    | atomicRead a => simp [hslot] at hq
    | portRead _ | recoveryRead _ _ _ _ => cases hq
    | portWrite _ _ | atomicWrite _ _ | secondaryWrite _ _ | refresh | catchUpRefresh => cases hreads
  · cases ho.symm.trans hwrite
    cases hreads
  · cases ho.symm.trans hwrite
    cases hreads

section
variable {s t : State} {b : Bank}

theorem State.finishAccess_memory (s : State) (a : PortAccess) (r : CompletionResult) :
    (s.finishAccess a r).memory = s.memory := (s.finishAccess_frame a r).memory

theorem State.primaryWrite_memory (s : State) (b : Bank) (a : PortAccess) (beats : List WriteBeat) :
    (s.primaryWrite b a beats).memory = s.memory.writeBeats (s.place b a.offset) beats := by
  rw [State.primaryWrite_eq]

theorem State.faultedRead_memory (s : State) (b : Bank) (a : PortAccess) (e : QueueEntry) :
    (s.faultedRead b a e).memory = s.memory := by
  unfold State.faultedRead
  split
  · rfl
  · split <;> rfl

theorem State.endRead_memory (s : State) (b : Bank) (a : PortAccess) : (s.endRead b a).memory = s.memory := by
  cases hfind : s.findEntry a.port a.ref with
  | none => rw [State.endRead_of_detached hfind]; rfl
  | some e =>
    cases hparity : s.memory.parityFault (s.place b a.offset) a.length with
    | false => rw [State.endRead_of_good hfind hparity]; rfl
    | true => rw [State.endRead_of_faulty hfind hparity, State.faultedRead_memory]; rfl

theorem State.endWrite_memory (s : State) (b : Bank) (a : PortAccess) (beats : List WriteBeat) :
    (s.endWrite b a beats).memory = s.memory.writeBeats (s.place b a.offset) beats := by
  rw [State.endWrite, State.finishAccess_memory, State.primaryWrite_memory]
  rfl

theorem State.endAtomicRead_memory (s : State) (b : Bank) (p : AtomicPair) : (s.endAtomicRead b p).memory = s.memory := by
  unfold State.endAtomicRead State.reportFailedAtomic
  dsimp only
  split <;> rfl

theorem State.endRecovery_memory (s : State) (b : Bank) (offset length : Nat) (n : PortId) (ref : Nat) :
    (s.endRecovery b offset length n ref).memory = s.memory := by
  cases hfind : s.findEntry n ref with
  | none => rw [State.endRecovery_of_removed hfind]; rfl
  | some e =>
    cases hparity : s.memory.parityFault (s.place b offset) length with
    | false => rw [State.endRecovery_of_good hfind hparity]; rfl
    | true => rw [State.endRecovery_of_faulty hfind hparity]; rfl

theorem State.failedPairEnd_memory (s : State) (b : Bank) (a : PortAccess) : (s.failedPairEnd b a).memory = s.memory := by
  rw [State.failedPairEnd, State.finishAccess_memory]
  split <;> rfl

/-- The end of a pair stores the new value of a good atomic and nothing of a failed one (R46, R47). -/
theorem State.endPair_memory (s : State) (b : Bank) (p : AtomicPair) : (s.endPair b p).memory = s.memory
    ∨ ∃ beats, (s.endPair b p).memory = s.memory.writeBeats (s.place b p.access.offset) beats := by
  unfold State.endPair
  dsimp only
  split
  · rw [State.finishAccess_memory, State.primaryWrite_memory]
    exact .inr ⟨_, rfl⟩
  · exact .inl (State.failedPairEnd_memory _ b p.access)
  · exact .inl (State.failedPairEnd_memory _ b p.access)

/-- A result leaves memory as it is, or is one that is stored and writes its beats. -/
theorem State.HandsBack.memory (h : s.HandsBack b t) : t.memory = s.memory
    ∨ (s.banks.get b).EndsInWrite ∧ ∃ place beats, t.memory = s.memory.writeBeats place beats := by
  cases h with
  | nothing | refresh | stray => exact .inl rfl
  | read => exact .inl (s.endRead_memory b _)
  | atomicRead => exact .inl (s.endAtomicRead_memory b _)
  | recovery => exact .inl (s.endRecovery_memory b _ _ _ _)
  | write operation => exact .inr ⟨.inr (.inl ⟨_, _, operation⟩), _, _, s.endWrite_memory b _ _⟩
  | secondary operation => exact .inr ⟨.inr (.inr ⟨_, _, operation⟩), _, _, rfl⟩
  | @pairEnd p pair second =>
    refine (s.endPair_memory b p).imp_right fun ⟨beats, hwritten⟩ => ⟨.inl ⟨p, pair, second⟩, _, beats, hwritten⟩

/-- The result of a read leaves memory as it is, with what the last boundary owed taken before it (R61, R45, R86). -/
theorem State.settle_endBank_memory_of_reads {o : Operation} (hpairs : s.PairsHold)
    (ho : (s.banks.get b).operation = some o) (hreads : o.reads = true) : (s.settle.endBank b).memory = s.memory := by
  rcases (s.settle.endBank_handsBack b).memory with hkept | ⟨hwrite, -⟩
  · exact hkept.trans s.settle_frame.memory
  · rw [s.settle_frame.banks] at hwrite
    exact absurd hwrite (Sequencer.not_endsInWrite_of_reads (hpairs b (mem_allBanks b)) ho hreads)

theorem State.endBank_canonical (h : s.MemoryCanonical) (b : Bank) : (s.endBank b).MemoryCanonical := by
  rcases (s.endBank_handsBack b).memory with hkept | ⟨-, place, beats, hwritten⟩
  · rw [State.MemoryCanonical, hkept]
    exact h
  · rw [State.MemoryCanonical, hwritten]
    exact Memory.wf_writeBeats place beats h

theorem State.settle_canonical (h : s.MemoryCanonical) : s.settle.MemoryCanonical := by
  rw [State.MemoryCanonical, s.settle_frame.memory]
  exact h

theorem State.endSlot_canonical (h : s.MemoryCanonical) (check : DrainCheckOrder) : (s.endSlot check).MemoryCanonical := by
  rw [State.MemoryCanonical, State.endSlot_memory]
  exact foldl_keeps (P := State.MemoryCanonical) (fun _ b h => State.endBank_canonical h b) allBanks (State.settle_canonical h)

end

/-! ### What a command does to memory -/

/-- What a command that answers `t` can have done to memory: nothing; a slot end; the result of a read; a result that is stored; a change in
the device. -/
inductive State.MemoryEffect (s : State) : Instr → State → Prop
  | kept {c : Instr} {t : State} (memory : t.memory = s.memory) : s.MemoryEffect c t
  | slotEnd {c : Instr} (order : DrainCheckOrder)
      (command : (∃ check, c = .slotEnd check) ∨ (∃ check, c = .truncation check) ∨ c = .forcedBoundary) :
      s.MemoryEffect c (s.endSlot order)
  | read {c : Instr} {b : Bank} {o : Operation} (operation : (s.banks.get b).operation = some o) (reads : o.reads = true) :
      s.MemoryEffect c (s.settle.endBank b)
  | stored {c : Instr} {b : Bank} (command : c = .writeComplete b ∨ c = .atomicPairEnd b ∨ c = .secondaryWriteComplete b) :
      s.MemoryEffect c (s.settle.endBank b)
  | deviceChange (a : Address) (v : Byte) :
      s.MemoryEffect (.memoryDeviceChange a v) (s.setMemory (s.memory.spoilByte a.toNat v))

/-- An outcome whose next state, if it has one, is such an effect of the command. -/
def HasMemoryEffect (s : State) (c : Instr) : Host.Outcome State Fault Refusal → Prop
  | .next t => s.MemoryEffect c t
  | .fault _ | .refused _ => True

section
variable {s t : State} {c : Instr}

theorem HasMemoryEffect.of_memory (h : t.memory = s.memory) : HasMemoryEffect s c (.next t) := State.MemoryEffect.kept h

theorem HasMemoryEffect.of_ite {p : Prop} [Decidable p] (h : s.MemoryEffect c t) :
    HasMemoryEffect s c (.next (if p then t else s)) := by
  split
  · exact h
  · exact .of_memory rfl

/-- A command that leaves memory alone where its event is due, and does nothing where it is not. -/
theorem HasMemoryEffect.of_ite_memory {p : Prop} [Decidable p] (h : t.memory = s.memory) :
    HasMemoryEffect s c (.next (if p then t else s)) := .of_ite (.kept h)

theorem HasMemoryEffect.of_frame {frame : List Byte} {check : Byte} {effect : State → Effect}
    (h : KeepFrame s (effect s).state) : HasMemoryEffect s c (.next (s.takeFrame frame check effect)) :=
  .of_memory (State.takeFrame_keep frame check h).memory

end

section
variable (s : State)

theorem State.takeRequest_memory (n : PortId) (m : RequestMessage) : (s.takeRequest n m).memory = s.memory := by
  unfold State.takeRequest
  split <;> rfl

theorem execResponseTransfer_memoryEffect (n : PortId) : HasMemoryEffect s (.responseTransfer n) (execResponseTransfer n s) := by
  unfold execResponseTransfer
  split <;> exact .of_memory rfl

theorem execReplySpent_memoryEffect : HasMemoryEffect s .replySpent (execReplySpent s) := by
  unfold execReplySpent
  split <;> exact .of_memory rfl

theorem execFrameOpen_memoryEffect : HasMemoryEffect s .frameOpen (execFrameOpen s) := by
  unfold execFrameOpen
  split <;> exact .of_memory rfl

theorem execMemoryDeviceChange_of_present {a : Address} (v : Byte) (h : a.toNat < Config.memoryBytes) :
    execMemoryDeviceChange a v s = .next (s.setMemory (s.memory.spoilByte a.toNat v)) := if_pos h

theorem execMemoryDeviceChange_memoryEffect (a : Address) (v : Byte) :
    HasMemoryEffect s (.memoryDeviceChange a v) (execMemoryDeviceChange a v s) := by
  rcases Nat.lt_or_ge a.toNat Config.memoryBytes with hpresent | habsent
  · rw [execMemoryDeviceChange_of_present s v hpresent]
    exact .deviceChange a v
  · rw [execMemoryDeviceChange_of_absent s v habsent]
    trivial

/-- Every command leaves memory alone, but for the slot ends, their results and the device (R96, R97). -/
theorem exec_memoryEffect (c : Instr) : HasMemoryEffect s c (exec c s) := by
  cases c with
  | powerOnReset | portReset | portResetRelease | selectRelease => exact .of_memory rfl
  | resetNRelease | abandoned | strobeEdge | badCommand => exact .of_ite_memory rfl
  | acceptance n m => exact .of_ite_memory (s.takeRequest_memory n m)
  | responseTransfer n => exact execResponseTransfer_memoryEffect s n
  | frameOpen => exact execFrameOpen_memoryEffect s
  | replySpent => exact execReplySpent_memoryEffect s
  | slotStart => exact .of_ite_memory s.startSlot_keep.memory
  | timeout turns => exact .of_memory (s.expirePorts_frame turns).memory
  | swapped turns => exact .of_ite_memory (s.swap_keep turns).memory
  | syncLost => exact .of_memory s.loseLock_frame.memory
  | syncPulse => exact .of_memory (s.beforePulse_keep.trans (State.judgePulse_keep _)).memory
  | slotEnd check => exact .of_ite (.slotEnd check (.inl ⟨check, rfl⟩))
  | truncation check => exact .of_ite (.slotEnd check (.inr (.inl ⟨check, rfl⟩)))
  | forcedBoundary => exact .of_ite (.slotEnd .checkAfterExpiry (.inr (.inr rfl)))
  | readComplete b | atomicReadComplete b | recoveryReadComplete b =>
    simp only [exec, execReadComplete, execAtomicReadComplete, execRecoveryReadComplete]
    split
    · exact .read ‹_› rfl
    · exact .of_memory rfl
  | writeComplete b | atomicPairEnd b | secondaryWriteComplete b =>
    simp only [exec, execWriteComplete, execAtomicPairEnd, execSecondaryWriteComplete]
    split
    · exact .stored (by simp)
    · exact .of_memory rfl
  | readStatus check => exact .of_frame s.clearReported_keep
  | readFault check => exact .of_frame s.popFault_keep
  | readCapture check => exact .of_frame s.popCapture_keep
  | captureNow check => exact .of_frame ⟨rfl, rfl, rfl⟩
  | writeGrid | writeRegion | writeGeometry | writePortLimit | restage => exact .of_frame (s.editStaged_keep _)
  | readPlan plan item check => exact .of_frame (s.readPlan_keep plan item)
  | commit check => exact .of_frame s.tryCommit_keep
  | cancelCommit check => exact .of_frame s.cancel_keep
  | setAlertMask mask check => exact .of_frame (s.writeMask_keep mask)
  | setStrobe setting check => exact .of_frame (s.writeStrobe_keep setting)
  | trafficReset check => exact .of_frame (s.startIfDue_keep.trans (State.trafficReset_keep _))
  | memoryDeviceChange a v => exact execMemoryDeviceChange_memoryEffect s a v

end

section
variable {s t : State} {c : Instr}

theorem State.MemoryEffect.of_exec (h : exec c s = .next t) : s.MemoryEffect c t := by
  have hc := exec_memoryEffect s c
  rw [h] at hc
  exact hc

/-- Every effect keeps the canonical form (log entry 8). -/
theorem State.MemoryEffect.canonical (h : s.MemoryEffect c t) (hs : s.MemoryCanonical) : t.MemoryCanonical := by
  cases h with
  | kept memory => rw [State.MemoryCanonical, memory]; exact hs
  | slotEnd order => exact State.endSlot_canonical hs order
  | read | stored => exact State.endBank_canonical (State.settle_canonical hs) _
  | deviceChange a v => exact Memory.wf_spoilByte a.toNat v hs

end

end Sys2Proof.Machine

namespace Sys2Proof.Proofs

open Sys2Proof.Machine

/-- Settles O57: writes and changes in the device insert into the rising lists, and nothing else touches them. -/
theorem memoryStaysCanonical : Obligations.MemoryStaysCanonical := by
  intro s t hs hstep
  unfold step at hstep
  split at hstep
  · cases hstep
    exact hs
  · exact (State.MemoryEffect.of_exec hstep).canonical hs

/-- Settles O56: of the effects on memory, only the result of a read could be another command's, and with the pairs in their slots a read
stores nothing. -/
theorem onlySlotEndsWriteMemory : Obligations.OnlySlotEndsWriteMemory := by
  intro c s t hpairs hexec hchanged
  cases State.MemoryEffect.of_exec hexec with
  | kept memory => exact absurd memory hchanged
  | slotEnd order command =>
    rcases command with hend | htruncation | hforced
    · exact .inl hend
    · exact .inr (.inl htruncation)
    · exact .inr (.inr (.inl hforced))
  | read operation reads => exact absurd (State.settle_endBank_memory_of_reads hpairs operation reads) hchanged
  | @stored c b command =>
    rcases command with rfl | rfl | rfl
    · exact .inr (.inr (.inr (.inl ⟨b, rfl⟩)))
    · exact .inr (.inr (.inr (.inr (.inl ⟨b, rfl⟩))))
    · exact .inr (.inr (.inr (.inr (.inr (.inl ⟨b, rfl⟩)))))
  | deviceChange a v => exact .inr (.inr (.inr (.inr (.inr (.inr ⟨a, v, rfl⟩)))))

/-- Settles O55: the byte spoiled is the one named, and an address outside memory faults. -/
theorem deviceChangeSpoilsOneByte : Obligations.DeviceChangeSpoilsOneByte := by
  refine ⟨fun s a v hpresent => ?_, fun s a v habsent => execMemoryDeviceChange_of_absent s v habsent⟩
  refine ⟨s.memory.spoilByte a.toNat v, execMemoryDeviceChange_of_present s v hpresent, ?_, ?_, fun x hx => ⟨?_, ?_⟩⟩
  · rw [Memory.byteAt_spoilByte, if_pos rfl]
  · rw [Memory.faultyAt_spoilByte, if_pos rfl]
  · rw [Memory.byteAt_spoilByte, if_neg hx]
  · rw [Memory.faultyAt_spoilByte, if_neg hx]

end Sys2Proof.Proofs
end

section
/-! SUPPORT. Validation in the order of Table 8-2: each check fails at the first row, position or region entry that fails (03 R55, 06 R101,
07 R117 to R120, 08 R126), and the statement about it (O49). -/

namespace Sys2Proof.Machine

/-! ### The first of an ordered list -/

section
variable {α β : Type} {l : List α} {key : α → Nat} (sorted : l.Pairwise (key · < key ·))
include sorted

/-- Along rising keys, the first answer is that of the answering element with the least key. -/
theorem findSome?_eq_some_iff_of_sorted (f : α → Option β) (y : β) : l.findSome? f = some y ↔
    ∃ x ∈ l, f x = some y ∧ ∀ z ∈ l, key z < key x → f z = none := by
  rw [List.findSome?_eq_some_iff]
  constructor
  · rintro ⟨front, x, back, rfl, hx, hfront⟩
    obtain ⟨-, hback, -⟩ := List.pairwise_append.mp sorted
    refine ⟨x, by simp, hx, fun z hz hlt => ?_⟩
    rcases List.mem_append.mp hz with hz | hz
    · exact hfront z hz
    · rcases List.mem_cons.mp hz with rfl | hz
      · exact absurd hlt (Nat.lt_irrefl _)
      · exact absurd ((List.pairwise_cons.mp hback).1 z hz) (Nat.lt_asymm hlt)
  · rintro ⟨x, hmem, hx, hbefore⟩
    obtain ⟨front, back, rfl⟩ := List.append_of_mem hmem
    obtain ⟨-, -, hfront⟩ := List.pairwise_append.mp sorted
    exact ⟨front, x, back, rfl, hx, fun z hz => hbefore z (by simp [hz]) (hfront z hz x (by simp))⟩

/-- Along rising keys, the first element with a property is the one with the least key. -/
theorem find?_eq_some_iff_of_sorted (p : α → Bool) (x : α) : l.find? p = some x ↔
    x ∈ l ∧ p x = true ∧ ∀ z ∈ l, key z < key x → p z = false := by
  rw [List.find?_eq_findSome?_guard, findSome?_eq_some_iff_of_sorted sorted]
  simp only [Option.guard_eq_some_iff, Option.guard_eq_none_iff]
  constructor
  · rintro ⟨x, hmem, ⟨rfl, hx⟩, hbefore⟩
    exact ⟨hmem, hx, hbefore⟩
  · rintro ⟨hmem, hx, hbefore⟩
    exact ⟨x, hmem, ⟨rfl, hx⟩, hbefore⟩

end

theorem allBanks_sorted : allBanks.Pairwise (rowNumber · < rowNumber ·) := by decide

theorem allPositions_sorted : allPositions.Pairwise (id · < id ·) := by decide

theorem allRegions_sorted : allRegions.Pairwise (Fin.val · < Fin.val ·) := by decide

theorem mem_allRegions (i : Fin 16) : i ∈ allRegions := by
  fin_cases i <;> decide

/-! ### What the checks ask for -/

section
variable (p : Plan)

/-- A row holds REFRESH at a used position (R101). -/
def Plan.Refreshes (b : Bank) : Prop := ∃ k < p.geometry.cycleLength.slots, (p.grid.get b).codeAt k = .refresh

/-- Position `k` of a row is the first of a run of equal port codes within the cycle (R55). -/
def Plan.RunStart (b : Bank) (k : Nat) : Prop :=
  k + 1 < p.geometry.cycleLength.slots ∧ (∃ n, (p.grid.get b).codeAt k = .port n)
    ∧ (p.grid.get b).codeAt (k + 1) = (p.grid.get b).codeAt k
    ∧ (k = 0 ∨ (p.grid.get b).codeAt (k - 1) ≠ (p.grid.get b).codeAt k)

/-- A row and its sibling are IDLE at the position before `k` in the cycle (R55). -/
def Plan.Turns (b : Bank) (k : Nat) : Prop :=
  (p.grid.get b).codeAt (positionBefore p.geometry.cycleLength.slots k) = .idle
    ∧ (p.grid.get (siblingRow b)).codeAt (positionBefore p.geometry.cycleLength.slots k) = .idle

/-- A region entry, if enabled, covers pages in order, in memory and, if mirrored, in one channel (R117 to R120). -/
def Plan.Covers (i : Fin 16) : Prop :=
  (p.region i).enabled = true →
    (p.region i).basePage.toNat ≤ (p.region i).limitPage.toNat
    ∧ (p.region i).limitPage.toNat < p.geometry.size.bytes / 4096
    ∧ ((p.region i).mirror = true → (p.region i).limitPage.toNat < p.geometry.size.bytes / 4096 / 2
      ∨ p.geometry.size.bytes / 4096 / 2 ≤ (p.region i).basePage.toNat)

/-- Under DYNAMIC, every used row refreshes (R101). -/
def Plan.Refreshed : Prop := p.geometry.kind = .dynamic → ∀ b, rowUsed p.geometry.split b = true → p.Refreshes b

/-- In split mode, every run has its turnaround (R55). -/
def Plan.Turned : Prop := p.geometry.split = true → ∀ b k, p.RunStart b k → p.Turns b k

end

section
variable {p : Plan}

/-! ### NO-REFRESH (R101) -/

theorem rowRefreshes_iff (b : Bank) :
    rowRefreshes (p.grid.get b) p.geometry.cycleLength.slots = true ↔ p.Refreshes b := by
  simp only [rowRefreshes, List.any_eq_true, Bool.and_eq_true, decide_eq_true_eq, mem_allPositions_iff]
  refine exists_congr fun k => and_iff_right_of_imp fun ⟨hk, _⟩ => ?_
  have := p.geometry.cycleLength.slots_le_eight
  omega

theorem refreshFailure_eq_none_iff : refreshFailure p = none ↔ p.Refreshed := by
  unfold refreshFailure Plan.Refreshed
  cases p.geometry.kind with
  | static => simp
  | dynamic => simp [← rowRefreshes_iff]

/-- NO-REFRESH is reported with the first used row that does not refresh. -/
theorem refreshFailure_eq_some_iff (f : PlanFailure) : refreshFailure p = some f ↔
    ∃ b, f = .noRefresh b ∧ p.geometry.kind = .dynamic ∧ rowUsed p.geometry.split b = true ∧ ¬ p.Refreshes b
      ∧ ∀ c, rowNumber c < rowNumber b → rowUsed p.geometry.split c = true → p.Refreshes c := by
  unfold refreshFailure
  cases p.geometry.kind with
  | static => simp
  | dynamic =>
    simp only [Option.map_eq_some_iff, find?_eq_some_iff_of_sorted allBanks_sorted, ← rowRefreshes_iff, mem_allBanks,
      Bool.and_eq_true, Bool.and_eq_false_imp, Bool.not_eq_true', Bool.not_eq_false', Bool.not_eq_true, true_and, true_implies]
    refine exists_congr fun b => ⟨?_, ?_⟩
    · rintro ⟨⟨⟨hused, hlacks⟩, hfirst⟩, rfl⟩
      exact ⟨rfl, hused, hlacks, hfirst⟩
    · rintro ⟨rfl, hused, hlacks, hfirst⟩
      exact ⟨⟨⟨hused, hlacks⟩, hfirst⟩, rfl⟩

/-! ### NO-TURNAROUND (R55) -/

theorem SlotCode.isPort_iff (c : SlotCode) : c.isPort = true ↔ ∃ n, c = .port n := by
  cases c <;> simp [SlotCode.isPort]

theorem startsRun_iff (b : Bank) (k : Nat) :
    startsRun (p.grid.get b) p.geometry.cycleLength.slots k = true ↔ p.RunStart b k := by
  simp [startsRun, Plan.RunStart, SlotCode.isPort_iff, and_assoc]

theorem lacksTurnaround_iff (b : Bank) (k : Nat) : lacksTurnaround p b k = true ↔ p.RunStart b k ∧ ¬ p.Turns b k := by
  simp only [lacksTurnaround, Bool.and_eq_true, startsRun_iff, Bool.not_eq_true', ← Bool.not_eq_true, decide_eq_true_eq,
    Plan.Turns]

theorem lacksTurnaround_eq_false_iff (b : Bank) (k : Nat) : lacksTurnaround p b k = false ↔ (p.RunStart b k → p.Turns b k) := by
  rw [← Bool.not_eq_true, lacksTurnaround_iff, not_and, not_not]

theorem Plan.RunStart.mem_allPositions {b : Bank} {k : Nat} (h : p.RunStart b k) : k ∈ allPositions := by
  have := p.geometry.cycleLength.slots_le_eight
  have := h.1
  rw [mem_allPositions_iff]
  omega

theorem rowTurnaroundFailure_eq_none_iff (b : Bank) :
    rowTurnaroundFailure p b = none ↔ ∀ k, p.RunStart b k → p.Turns b k := by
  simp only [rowTurnaroundFailure, Option.map_eq_none_iff, List.find?_eq_none, Bool.not_eq_true, lacksTurnaround_eq_false_iff]
  exact ⟨fun h k hk => h k hk.mem_allPositions hk, fun h k _ => h k⟩

/-- A row is reported with its first failing run. -/
theorem rowTurnaroundFailure_eq_some_iff (b : Bank) (f : PlanFailure) : rowTurnaroundFailure p b = some f ↔
    ∃ k, f = .noTurnaround b k ∧ p.RunStart b k ∧ ¬ p.Turns b k ∧ ∀ j < k, p.RunStart b j → p.Turns b j := by
  simp only [rowTurnaroundFailure, Option.map_eq_some_iff, find?_eq_some_iff_of_sorted allPositions_sorted,
    lacksTurnaround_iff, lacksTurnaround_eq_false_iff]
  refine exists_congr fun k => ⟨?_, ?_⟩
  · rintro ⟨⟨-, ⟨hrun, hturn⟩, hfirst⟩, rfl⟩
    exact ⟨rfl, hrun, hturn, fun j hj hstart => hfirst j hstart.mem_allPositions hj hstart⟩
  · rintro ⟨rfl, hrun, hturn, hfirst⟩
    exact ⟨⟨hrun.mem_allPositions, ⟨hrun, hturn⟩, fun j _ hj => hfirst j hj⟩, rfl⟩

theorem turnaroundFailure_eq_none_iff : turnaroundFailure p = none ↔ p.Turned := by
  unfold turnaroundFailure Plan.Turned
  cases p.geometry.split with
  | false => simp
  | true => simp [rowTurnaroundFailure_eq_none_iff]

/-- NO-TURNAROUND is reported with the first row and its first failing run. -/
theorem turnaroundFailure_eq_some_iff (f : PlanFailure) : turnaroundFailure p = some f ↔
    ∃ b k, f = .noTurnaround b k ∧ p.geometry.split = true ∧ p.RunStart b k ∧ ¬ p.Turns b k
      ∧ (∀ j < k, p.RunStart b j → p.Turns b j) ∧ ∀ c j, rowNumber c < rowNumber b → p.RunStart c j → p.Turns c j := by
  unfold turnaroundFailure
  cases p.geometry.split with
  | false => simp
  | true =>
    simp only [if_true, findSome?_eq_some_iff_of_sorted allBanks_sorted, rowTurnaroundFailure_eq_some_iff,
      rowTurnaroundFailure_eq_none_iff, mem_allBanks, true_and, true_implies]
    constructor
    · rintro ⟨b, ⟨k, hf, hrun, hturn, hfirst⟩, hrows⟩
      exact ⟨b, k, hf, hrun, hturn, hfirst, fun c j hc => hrows c hc j⟩
    · rintro ⟨b, k, hf, hrun, hturn, hfirst, hrows⟩
      exact ⟨b, ⟨k, hf, hrun, hturn, hfirst⟩, fun c hc j => hrows c j hc⟩

/-! ### The region checks (R117 to R120) -/

theorem pagesInMemory_eq (size : MemorySize) : pagesInMemory size = size.bytes / 4096 := rfl

theorem pagesPerChannel_eq (size : MemorySize) : pagesPerChannel size = size.bytes / 4096 / 2 := by
  cases size <;> rfl

/-- The failure of an enabled entry: the first of its three checks that fails. -/
inductive Plan.EntryFails (p : Plan) (i : Fin 16) : PlanFailure → Prop
  | order (enabled : (p.region i).enabled = true) (limit : (p.region i).limitPage.toNat < (p.region i).basePage.toNat) :
      p.EntryFails i (.regionOrder i)
  | range (enabled : (p.region i).enabled = true) (ordered : (p.region i).basePage.toNat ≤ (p.region i).limitPage.toNat)
      (limit : p.geometry.size.bytes / 4096 ≤ (p.region i).limitPage.toNat) : p.EntryFails i (.regionRange i)
  | span (enabled : (p.region i).enabled = true) (ordered : (p.region i).basePage.toNat ≤ (p.region i).limitPage.toNat)
      (inMemory : (p.region i).limitPage.toNat < p.geometry.size.bytes / 4096) (mirror : (p.region i).mirror = true)
      (low : (p.region i).basePage.toNat < p.geometry.size.bytes / 4096 / 2)
      (high : p.geometry.size.bytes / 4096 / 2 ≤ (p.region i).limitPage.toNat) : p.EntryFails i (.mirrorSpan i)

theorem entryFailure_of_fails {i : Fin 16} {f : PlanFailure} (h : p.EntryFails i f) : entryFailure p i = some f := by
  cases h with
  | order enabled limit => simp [entryFailure, enabled, limit]
  | range enabled ordered limit => simp [entryFailure, enabled, pagesInMemory_eq, limit, Nat.not_lt.mpr ordered]
  | span enabled ordered inMemory mirror low high =>
    simp [entryFailure, enabled, pagesInMemory_eq, pagesPerChannel_eq, mirror, low, high, Nat.not_lt.mpr ordered,
      Nat.not_le.mpr inMemory]

theorem entryFailure_of_covers {i : Fin 16} (h : p.Covers i) : entryFailure p i = none := by
  cases enabled : (p.region i).enabled with
  | false => simp [entryFailure, enabled]
  | true =>
    obtain ⟨ordered, inMemory, channel⟩ := h enabled
    simp only [entryFailure, enabled, Nat.not_lt.mpr ordered, pagesInMemory_eq, Nat.not_le.mpr inMemory, pagesPerChannel_eq,
      Bool.not_true, Bool.false_eq_true, if_false, ite_eq_right_iff, Bool.and_eq_true, decide_eq_true_eq, reduceCtorEq, imp_false]
    rintro ⟨⟨mirror, low⟩, high⟩
    have := channel mirror
    omega

theorem Plan.covers_or_fails (i : Fin 16) : p.Covers i ∨ ∃ f, p.EntryFails i f := by
  by_cases enabled : (p.region i).enabled = true
  · rcases Nat.lt_or_ge (p.region i).limitPage.toNat (p.region i).basePage.toNat with limit | ordered
    · exact .inr ⟨_, .order enabled limit⟩
    rcases Nat.lt_or_ge (p.region i).limitPage.toNat (p.geometry.size.bytes / 4096) with inMemory | limit
    · by_cases channel : (p.region i).mirror = true → (p.region i).limitPage.toNat < p.geometry.size.bytes / 4096 / 2
        ∨ p.geometry.size.bytes / 4096 / 2 ≤ (p.region i).basePage.toNat
      · exact .inl fun _ => ⟨ordered, inMemory, channel⟩
      · push Not at channel
        obtain ⟨mirror, high, low⟩ := channel
        exact .inr ⟨_, .span enabled ordered inMemory mirror low high⟩
    · exact .inr ⟨_, .range enabled ordered limit⟩
  · exact .inl fun h => absurd h enabled

theorem entryFailure_eq_none_iff (i : Fin 16) : entryFailure p i = none ↔ p.Covers i := by
  refine ⟨fun h => p.covers_or_fails i |>.resolve_right ?_, entryFailure_of_covers⟩
  rintro ⟨f, hf⟩
  cases h.symm.trans (entryFailure_of_fails hf)

theorem entryFailure_eq_some_iff (i : Fin 16) (f : PlanFailure) : entryFailure p i = some f ↔ p.EntryFails i f := by
  refine ⟨fun h => ?_, entryFailure_of_fails⟩
  rcases p.covers_or_fails i with hcovers | ⟨f', hf'⟩
  · cases h.symm.trans (entryFailure_of_covers hcovers)
  · cases h.symm.trans (entryFailure_of_fails hf')
    exact hf'

theorem regionFailure_eq_none_iff : regionFailure p = none ↔ ∀ i, p.Covers i := by
  simp only [regionFailure, List.findSome?_eq_none_iff, entryFailure_eq_none_iff, mem_allRegions, true_implies]

/-- The first failing entry is reported. -/
theorem regionFailure_eq_some_iff (f : PlanFailure) :
    regionFailure p = some f ↔ ∃ i, (∀ j < i, p.Covers j) ∧ p.EntryFails i f := by
  simp only [regionFailure, findSome?_eq_some_iff_of_sorted allRegions_sorted, entryFailure_eq_some_iff,
    entryFailure_eq_none_iff, mem_allRegions, true_and, true_implies, Fin.lt_def, and_comm]

theorem Plan.not_entryFails_noRefresh (i : Fin 16) (b : Bank) : ¬ p.EntryFails i (.noRefresh b) := nofun

theorem Plan.not_entryFails_noTurnaround (i : Fin 16) (b : Bank) (k : Nat) : ¬ p.EntryFails i (.noTurnaround b k) := nofun

theorem Plan.entryFails_regionOrder_iff (i j : Fin 16) : p.EntryFails j (.regionOrder i) ↔
    j = i ∧ (p.region i).enabled = true ∧ (p.region i).limitPage.toNat < (p.region i).basePage.toNat := by
  constructor
  · rintro ⟨⟩
    exact ⟨rfl, ‹_›, ‹_›⟩
  · rintro ⟨rfl, enabled, limit⟩
    exact .order enabled limit

theorem Plan.entryFails_regionRange_iff (i j : Fin 16) : p.EntryFails j (.regionRange i) ↔
    j = i ∧ (p.region i).enabled = true ∧ (p.region i).basePage.toNat ≤ (p.region i).limitPage.toNat
      ∧ p.geometry.size.bytes / 4096 ≤ (p.region i).limitPage.toNat := by
  constructor
  · rintro ⟨⟩
    exact ⟨rfl, ‹_›, ‹_›, ‹_›⟩
  · rintro ⟨rfl, enabled, ordered, limit⟩
    exact .range enabled ordered limit

theorem Plan.entryFails_mirrorSpan_iff (i j : Fin 16) : p.EntryFails j (.mirrorSpan i) ↔
    j = i ∧ (p.region i).enabled = true ∧ (p.region i).basePage.toNat ≤ (p.region i).limitPage.toNat
      ∧ (p.region i).limitPage.toNat < p.geometry.size.bytes / 4096 ∧ (p.region i).mirror = true
      ∧ (p.region i).basePage.toNat < p.geometry.size.bytes / 4096 / 2
      ∧ p.geometry.size.bytes / 4096 / 2 ≤ (p.region i).limitPage.toNat := by
  constructor
  · rintro ⟨⟩
    exact ⟨rfl, ‹_›, ‹_›, ‹_›, ‹_›, ‹_›, ‹_›⟩
  · rintro ⟨rfl, enabled, ordered, inMemory, mirror, low, high⟩
    exact .span enabled ordered inMemory mirror low high

/-! ### The order of the checks (R126, Table 8-2) -/

theorem validate_eq_none_iff : validate p = none ↔ p.Refreshed ∧ p.Turned ∧ ∀ i, p.Covers i := by
  rw [← refreshFailure_eq_none_iff, ← turnaroundFailure_eq_none_iff, ← regionFailure_eq_none_iff]
  unfold validate
  cases refreshFailure p with
  | some f => simp
  | none => cases turnaroundFailure p <;> simp

theorem validate_eq_some_iff (f : PlanFailure) : validate p = some f ↔
    refreshFailure p = some f ∨ p.Refreshed ∧ turnaroundFailure p = some f
      ∨ p.Refreshed ∧ p.Turned ∧ ∃ i, (∀ j < i, p.Covers j) ∧ p.EntryFails i f := by
  rw [← refreshFailure_eq_none_iff, ← turnaroundFailure_eq_none_iff, ← regionFailure_eq_some_iff]
  unfold validate
  cases refreshFailure p with
  | some f => simp
  | none => cases turnaroundFailure p <;> simp

end

end Sys2Proof.Machine

namespace Sys2Proof.Proofs

open Sys2Proof.Machine

/-- Settles O49: a failure is reported by one of the three checks, each of which reports the first that fails. -/
theorem validationPassesExactly : Obligations.ValidationPassesExactly := by
  refine fun p => ⟨validate_eq_none_iff, fun f => ?_⟩
  rw [validate_eq_some_iff, refreshFailure_eq_some_iff, turnaroundFailure_eq_some_iff]
  cases f with
  | noRefresh b =>
    simp only [PlanFailure.noRefresh.injEq, reduceCtorEq, Plan.not_entryFails_noRefresh, false_and, and_false, exists_false,
      or_false, exists_eq_left']
    exact Iff.rfl
  | noTurnaround b k =>
    simp only [PlanFailure.noTurnaround.injEq, reduceCtorEq, Plan.not_entryFails_noTurnaround, false_and, and_false,
      exists_false, or_false, false_or, existsAndEq, true_and]
    exact Iff.rfl
  | regionOrder i | regionRange i | mirrorSpan i =>
    simp only [reduceCtorEq, Plan.entryFails_regionOrder_iff, Plan.entryFails_regionRange_iff, Plan.entryFails_mirrorSpan_iff,
      false_and, and_false, exists_false, false_or, existsAndEq, true_and]
    exact Iff.rfl

end Sys2Proof.Proofs
end

section
/-! SUPPORT. The first match of a byte in the region table, and what the region check decides of a request in each of its cases (07 R109 to
R113). -/

namespace Sys2Proof.Machine

/-! ### The first match (R109) -/

theorem pageOf_eq (byte : Nat) : pageOf byte = byte / 4096 := rfl

theorem RegionEntry.contains_pageOf_iff (e : RegionEntry) (byte : Nat) : e.contains (pageOf byte) = true ↔
    e.enabled = true ∧ e.basePage.toNat ≤ byte / 4096 ∧ byte / 4096 ≤ e.limitPage.toNat := by
  simp only [RegionEntry.contains, ← pageOf_eq, Bool.and_eq_true, decide_eq_true_eq, and_assoc]

section
variable (p : Plan) (byte : Nat)

theorem firstMatch_eq_some_iff (i : Fin 16) : firstMatch p byte = some i ↔
    (p.region i).contains (pageOf byte) = true ∧ ∀ j : Fin 16, j < i → ¬ (p.region j).contains (pageOf byte) = true := by
  simp only [firstMatch, find?_eq_some_iff_of_sorted allRegions_sorted, mem_allRegions, true_and, true_implies, ← Fin.lt_def,
    Bool.not_eq_true]

theorem firstMatch_eq_none_iff : firstMatch p byte = none ↔ ∀ i : Fin 16, ¬ (p.region i).contains (pageOf byte) = true := by
  simp only [firstMatch, List.find?_eq_none, mem_allRegions, true_implies]

end

/-! ### The cases of the region check (R111 to R113) -/

section
variable {p : Plan} {n : PortId} {k : RequestKind} {address : Address} {length : Nat}

/-- A split span is denied with the first match of its first byte (R111). -/
theorem regionCheck_of_split (h : firstMatch p address.toNat ≠ firstMatch p (lastByte address length)) :
    regionCheck p n k address length = .denied (firstMatch p address.toNat) := by
  unfold regionCheck
  cases hfirst : firstMatch p address.toNat with
  | none =>
    cases hlast : firstMatch p (lastByte address length) with
    | none => exact absurd (hfirst.trans hlast.symm) h
    | some j => rfl
  | some i =>
    cases hlast : firstMatch p (lastByte address length) with
    | none => rfl
    | some j =>
      rw [hfirst, hlast] at h
      exact if_neg fun hij => h (congrArg some hij)

/-- A span whose ends have the same first match is governed by that entry (R112). -/
theorem regionCheck_of_governed {i : Fin 16} (hfirst : firstMatch p address.toNat = some i)
    (hlast : firstMatch p (lastByte address length) = some i) : regionCheck p n k address length = governedBy p i n k := by
  simp only [regionCheck, hfirst, hlast, if_true]

/-- A span neither of whose ends has a match is left to the default policy (R113). -/
theorem regionCheck_of_unmatched (hfirst : firstMatch p address.toNat = none)
    (hlast : firstMatch p (lastByte address length) = none) : regionCheck p n k address length = byDefaultPolicy p := by
  simp only [regionCheck, hfirst, hlast]

end

/-- The sets that a kind of request needs its port in (R112). -/
theorem RegionEntry.permits_iff (e : RegionEntry) (n : PortId) (k : RequestKind) : e.permits n k = true ↔
    match k with
    | .read => e.readPorts.getLsbD n = true
    | .write => e.writePorts.getLsbD n = true
    | .swap | .fetchAdd => e.readPorts.getLsbD n = true ∧ e.writePorts.getLsbD n = true := by
  cases k with
  | read | write => exact Iff.rfl
  | swap | fetchAdd => exact Bool.and_eq_true_iff

theorem governedBy_of_permits {p : Plan} {i : Fin 16} {n : PortId} {k : RequestKind} (h : (p.region i).permits n k = true) :
    governedBy p i n k = .allowed (p.region i).mirror := if_pos h

theorem governedBy_of_not_permits {p : Plan} {i : Fin 16} {n : PortId} {k : RequestKind}
    (h : ¬ (p.region i).permits n k = true) : governedBy p i n k = .denied (some i) := if_neg h

theorem byDefaultPolicy_of_allow {p : Plan} (h : p.defaultPolicy = .allow) : byDefaultPolicy p = .allowed false := by
  rw [byDefaultPolicy, h]

theorem byDefaultPolicy_of_deny {p : Plan} (h : p.defaultPolicy = .deny) : byDefaultPolicy p = .denied none := by
  rw [byDefaultPolicy, h]

/-- What passed MALFORMED and RANGE is refused DENIED by the region check, whatever the NO-LINK check would say (R161). -/
theorem acceptanceDecision_of_denied {p : Plan} {n : PortId} {m : RequestMessage} {b : Bank} {region : Option (Fin 16)}
    (hformed : isMalformed p.geometry m = false) (hbank : bankOf p.geometry m.address = some b)
    (hdenied : regionCheck p n m.kind m.address m.length.toNat = .denied region) :
    acceptanceDecision p n m = .refuse .denied .denied (some b) region := by
  simp only [acceptanceDecision, hformed, hbank, hdenied, Bool.false_eq_true, if_false]

end Sys2Proof.Machine

namespace Sys2Proof.Proofs

open Sys2Proof.Machine

/-- Settles O12: the region indices are searched in ascending order, and a page is 4096 bytes. -/
theorem firstMatchIsTheLowestEntry : Obligations.FirstMatchIsTheLowestEntry := by
  intro p byte
  simp only [← RegionEntry.contains_pageOf_iff]
  exact ⟨firstMatch_eq_some_iff p byte, firstMatch_eq_none_iff p byte⟩

/-- Settles O13: the two first matches differ, are one entry, or are both missing; each case has its region decision, and the acceptance
decision follows from that. -/
theorem regionCheck : Obligations.RegionCheck := by
  refine ⟨fun p n m b hformed hbank hsplit => acceptanceDecision_of_denied hformed hbank (regionCheck_of_split hsplit),
    fun p n m b i hformed hbank hfirst hlast => ?_, fun p n m b hformed hbank hfirst hlast => ?_⟩
  · have hcheck := regionCheck_of_governed (n := n) (k := m.kind) hfirst hlast
    have hpermits := (p.region i).permits_iff n m.kind
    exact ⟨fun hdenied => acceptanceDecision_of_denied hformed hbank
        (hcheck.trans (governedBy_of_not_permits (mt hpermits.mp hdenied))),
      fun hallowed => acceptanceDecision_of_allowed hformed hbank
        (hcheck.trans (governedBy_of_permits (hpermits.mpr hallowed)))⟩
  · have hcheck := regionCheck_of_unmatched (n := n) (k := m.kind) hfirst hlast
    exact ⟨fun hdeny => acceptanceDecision_of_denied hformed hbank (hcheck.trans (byDefaultPolicy_of_deny hdeny)),
      fun hallow => acceptanceDecision_of_allowed hformed hbank (hcheck.trans (byDefaultPolicy_of_allow hallow))⟩

end Sys2Proof.Proofs
end

section
/-! SUPPORT. What a command does to the plans and to the commit state (08 R122 to R137): most commands keep both plans and keep the commit
state or end the commit; a swap, a staged edit and COMMIT are the others. The statements about the plans at all times (O58), after the
resets (O5) and after RESTAGE (O45). -/

namespace Sys2Proof.Machine

/-! ### Commands that keep both plans -/

/-- Both plans stay, and the commit state stays or becomes NONE. -/
structure PlansFrame (s t : State) : Prop where
  active : t.commit.active = s.commit.active
  staged : t.commit.staged = s.commit.staged
  state  : t.commit.state = s.commit.state ∨ t.commit.state = .none

theorem PlansFrame.of_commit {s t : State} (h : t.commit = s.commit) : PlansFrame s t :=
  ⟨by rw [h], by rw [h], .inl (by rw [h])⟩

theorem PlansFrame.refl (s : State) : PlansFrame s s := .of_commit rfl

theorem PlansFrame.trans {s t u : State} (h : PlansFrame s t) (k : PlansFrame t u) : PlansFrame s u := by
  refine ⟨k.active.trans h.active, k.staged.trans h.staged, ?_⟩
  rcases k.state with hkept | hended
  · rw [hkept]
    exact h.state
  · exact .inr hended

theorem PlansFrame.of_ite {s t : State} {p : Prop} [Decidable p] (h : PlansFrame s t) : PlansFrame s (if p then t else s) := by
  split
  · exact h
  · exact .refl s

section
variable (s : State)

theorem State.abandon_plansFrame : PlansFrame s s.abandon := ⟨rfl, rfl, .inr rfl⟩

theorem State.countDrain_plansFrame : PlansFrame s s.countDrain := ⟨rfl, rfl, .inl rfl⟩

theorem State.endCommit_plansFrame (o : CommitOutcome) : PlansFrame s (s.endCommit o) := by
  unfold State.endCommit
  split
  · exact .refl s
  · exact ⟨rfl, rfl, .inr rfl⟩

theorem State.cancel_plansFrame : PlansFrame s s.cancel.state := by
  unfold State.cancel
  split
  · exact .refl s
  · exact s.endCommit_plansFrame .cancelled

theorem State.trafficReset_plansFrame : PlansFrame s s.trafficReset := by
  have hcleared : PlansFrame s s.clearTraffic := .of_commit rfl
  exact (hcleared.trans (State.endCommit_plansFrame _ .abortedByReset)).trans (.of_commit rfl)

/-- A boundary makes a reaction due or counts a drain check; the plans stay (R133). -/
theorem State.markReaction_plansFrame (check : DrainCheckOrder) : PlansFrame s (s.markReaction check) := by
  have hdue : PlansFrame s (s.markReaction .checkAfterExpiry) := ⟨rfl, rfl, .inl rfl⟩
  cases check with
  | checkAfterExpiry => exact hdue
  | checkFirst =>
    rw [State.markReaction_checkFirst]
    split
    · exact hdue
    · exact hdue.trans (State.countDrain_plansFrame _)

theorem State.cycleReactions_plansFrame (check : DrainCheckOrder) : PlansFrame s (s.cycleReactions check) := by
  have haged : PlansFrame s (s.nextCycle.ageQueues.setSync s.sync.atBoundary) := .of_commit rfl
  exact haged.trans (State.markReaction_plansFrame _ check)

theorem State.advance_plansFrame (check : DrainCheckOrder) : PlansFrame s (s.advance check) := by
  have hdebts : PlansFrame s s.setDebts := .of_commit rfl
  unfold State.advance
  split
  · exact .of_commit rfl
  · exact s.cycleReactions_plansFrame check
  · exact hdebts.trans (State.cycleReactions_plansFrame _ check)
  · exact .of_commit rfl

theorem State.endSlot_plansFrame (check : DrainCheckOrder) : PlansFrame s (s.endSlot check) := by
  have hended : PlansFrame s s.settle.endBanks :=
    .of_commit ((State.endBanks_frame _).commit.trans s.settle_frame.commit)
  exact hended.trans (State.advance_plansFrame _ check)

theorem State.judgePulse_commit : s.judgePulse.commit = s.commit := by
  unfold State.judgePulse State.earlyPulse
  split
  · rfl
  · split
    · rfl
    · rcases s.reportSlip_cases with heq | ⟨r, heq⟩ <;> rw [heq] <;> rfl

theorem State.takeRequest_commit (n : PortId) (m : RequestMessage) : (s.takeRequest n m).commit = s.commit := by
  unfold State.takeRequest
  split <;> rfl

theorem State.popFault_commit : s.popFault.state.commit = s.commit := by
  unfold State.popFault
  split <;> rfl

theorem State.popCapture_commit : s.popCapture.state.commit = s.commit := by
  unfold State.popCapture
  split <;> rfl

theorem State.readPlan_commit (plan item : Byte) : (s.readPlan plan item).state.commit = s.commit := by
  unfold State.readPlan
  split <;> rfl

theorem State.writeMask_commit (mask : Byte) : (s.writeMask mask).state.commit = s.commit := by
  unfold State.writeMask
  split <;> rfl

theorem State.writeStrobe_commit (setting : Byte) : (s.writeStrobe setting).state.commit = s.commit := by
  unfold State.writeStrobe
  split <;> rfl

/-- With no reaction of a boundary due, a slot start keeps the commit controller. -/
theorem State.startIfDue_commit (h : s.commit.reactionDue = false) : s.startIfDue.commit = s.commit := by
  unfold State.startIfDue
  split
  · have hreaction : s.loseLock.commitReaction [] = s.loseLock :=
      State.commitReaction_of_not_due _ [] (by rw [s.loseLock_frame.commit, h])
    have hbanks := (State.decideBanks_frame s.loseLock.openFreedPlaces allBanks).commit
    rw [State.startSlot, hreaction]
    exact hbanks.trans s.loseLock_frame.commit
  · rfl

end

/-! ### The plans stay valid (R125, R128, R129) -/

section
variable {s t : State}

/-- Ending a commit asks nothing of the STAGED plan. -/
theorem State.PlansValid.of_frame (h : s.PlansValid) (k : PlansFrame s t) : t.PlansValid := by
  obtain ⟨hactive, hactiveRange, hstagedRange, hstaged, hwaiting, hdraining⟩ := h
  rw [State.PlansValid, k.active, k.staged]
  refine ⟨hactive, hactiveRange, hstagedRange, ?_⟩
  rcases k.state with hkept | hended
  · rw [hkept]
    exact ⟨hstaged, hwaiting, hdraining⟩
  · rw [hended]
    exact ⟨fun hne => absurd rfl hne, nofun, nofun⟩

theorem State.PlansValid.of_commit (h : s.PlansValid) (k : t.commit = s.commit) : t.PlansValid := h.of_frame (.of_commit k)

theorem State.PlansValid.loseLock (h : s.PlansValid) : s.loseLock.PlansValid := h.of_commit s.loseLock_frame.commit

/-- A swap installs a STAGED plan that passed validation when the commit began (R128, R129). -/
theorem State.PlansValid.swap (h : s.PlansValid) (hd : s.swapDue = true) (turns : List PortId) : (s.swap turns).PlansValid := by
  obtain ⟨-, -, hstagedRange, hstaged, -, -⟩ := h
  obtain ⟨-, hstate⟩ := State.swapDue_iff.mp hd
  have hpending : s.commit.state ≠ .none := by rcases hstate with hstate | ⟨hstate, -⟩ <;> simp [hstate]
  rw [State.PlansValid, State.swap_commit]
  exact ⟨hstaged hpending, hstagedRange, hstagedRange, fun hne => absurd rfl hne, nofun, nofun⟩

theorem State.PlansValid.commitReaction (h : s.PlansValid) (turns : List PortId) : (s.commitReaction turns).PlansValid := by
  unfold State.commitReaction
  split
  · exact h.swap ‹_› turns
  · split
    · exact h.of_frame s.abandon_plansFrame
    · exact h.of_frame (.of_ite s.countDrain_plansFrame)

theorem State.PlansValid.startIfDue (h : s.PlansValid) : s.startIfDue.PlansValid := by
  unfold State.startIfDue
  split
  · exact (h.loseLock.commitReaction []).of_commit
      (State.decideBanks_frame (s.loseLock.commitReaction []).openFreedPlaces allBanks).commit
  · exact h

theorem State.PlansValid.syncPulse (h : s.PlansValid) : s.beforePulse.judgePulse.PlansValid := by
  refine State.PlansValid.of_commit ?_ (State.judgePulse_commit _)
  unfold State.beforePulse
  split
  · exact (h.commitReaction []).loseLock
  · exact h.loseLock

/-- Without a commit pending, the STAGED plan may be any plan in range (R123). -/
theorem State.PlansValid.editStaged (h : s.PlansValid) {edited : Option Plan} (hrange : ∀ p, edited = some p → p.InRange) :
    (s.editStaged edited).state.PlansValid := by
  unfold State.editStaged
  split
  · exact h
  · rename_i hnone
    rw [ne_eq, not_not] at hnone
    split
    · exact h
    · rename_i p
      obtain ⟨hactive, hactiveRange, -, -, -, -⟩ := h
      refine ⟨hactive, hactiveRange, hrange p rfl, fun hpending => absurd hnone hpending, fun hwaiting => ?_, fun hdraining => ?_⟩
      · cases hnone.symm.trans hwaiting
      · cases hnone.symm.trans hdraining

/-- COMMIT begins a commit only with a valid STAGED plan, and drains exactly when its geometry differs (R128). -/
theorem State.PlansValid.tryCommit (h : s.PlansValid) : s.tryCommit.state.PlansValid := by
  unfold State.tryCommit
  split
  · exact h
  · split
    · exact h.of_frame ⟨rfl, rfl, .inl rfl⟩
    · rename_i hvalid
      obtain ⟨hactive, hactiveRange, hstagedRange, -, -, -⟩ := h
      split
      · rename_i hchange
        have hgeometry : s.commit.staged.geometry ≠ s.commit.active.geometry := of_decide_eq_true hchange
        exact ⟨hactive, hactiveRange, hstagedRange, fun _ => hvalid, nofun, fun _ => hgeometry⟩
      · rename_i hchange
        have hgeometry : s.commit.staged.geometry = s.commit.active.geometry := by
          simpa [CommitController.geometryChange] using hchange
        exact ⟨hactive, hactiveRange, hstagedRange, fun _ => hvalid, fun _ => hgeometry, nofun⟩

theorem State.PlansValid.takeFrame (h : s.PlansValid) (frame : List Byte) (check : Byte) {effect : State → Effect}
    (heffect : (effect s).state.PlansValid) : (s.takeFrame frame check effect).PlansValid := by
  unfold State.takeFrame
  split
  · split
    · exact heffect.of_commit rfl
    · exact h.of_commit rfl
  · exact h

/-- A command of the link whose effect keeps the commit controller. -/
theorem State.PlansValid.takeFrame_of_commit (h : s.PlansValid) (frame : List Byte) (check : Byte) {effect : State → Effect}
    (heffect : (effect s).state.commit = s.commit) : (s.takeFrame frame check effect).PlansValid :=
  h.takeFrame frame check (h.of_commit heffect)

/-- A staged edit keeps the plans valid where every plan it can leave is in range (R190). -/
theorem State.PlansValid.editFrame (h : s.PlansValid) (frame : List Byte) (check : Byte) {edited : State → Option Plan}
    (hrange : ∀ p, s.commit.staged.InRange → s.commit.active.InRange → edited s = some p → p.InRange) :
    (s.takeFrame frame check fun t => t.editStaged (edited t)).PlansValid := by
  have ⟨_, hactive, hstaged, _⟩ := h
  exact h.takeFrame frame check (h.editStaged fun p => hrange p hstaged hactive)

theorem State.powerOn_plansValid (s : State) : s.powerOn.PlansValid := State.reset_holds.control.plans

end

/-! ### Every command -/

/-- An outcome whose next state, if it has one, has valid plans. -/
def KeepsPlansValid : Host.Outcome State Fault Refusal → Prop
  | .next t => t.PlansValid
  | .fault _ | .refused _ => True

theorem KeepsPlansValid.next {o : Host.Outcome State Fault Refusal} (h : KeepsPlansValid o) {t : State} (ho : o = .next t) :
    t.PlansValid := by
  rw [ho] at h
  exact h

section
variable {s : State}

theorem State.PlansValid.responseTransfer (h : s.PlansValid) (n : PortId) : KeepsPlansValid (execResponseTransfer n s) := by
  unfold execResponseTransfer
  split <;> exact h.of_commit rfl

theorem State.PlansValid.replySpent (h : s.PlansValid) : KeepsPlansValid (execReplySpent s) := by
  unfold execReplySpent
  split <;> exact h.of_commit rfl

theorem State.PlansValid.frameOpen (h : s.PlansValid) : KeepsPlansValid (execFrameOpen s) := by
  unfold execFrameOpen
  split <;> exact h.of_commit rfl

theorem State.PlansValid.memoryDeviceChange (h : s.PlansValid) (address : Address) (value : Byte) :
    KeepsPlansValid (execMemoryDeviceChange address value s) := by
  unfold execMemoryDeviceChange
  split
  · exact h.of_commit rfl
  · trivial

theorem State.PlansValid.swapped (h : s.PlansValid) (turns : List PortId) :
    (if s.swapDue then s.swap turns else s).PlansValid := by
  split
  · exact h.swap ‹_› turns
  · exact h

/-- The result of a bank, with what the last boundary owed taken before it. -/
theorem State.PlansValid.result (h : s.PlansValid) (b : Bank) : (s.settle.endBank b).PlansValid :=
  h.of_commit ((State.endBank_frame _ b).commit.trans s.settle_frame.commit)

theorem State.PlansValid.exec (h : s.PlansValid) (i : Instr) : KeepsPlansValid (exec i s) := by
  cases i with
  | powerOnReset => exact s.powerOn_plansValid
  | portReset | portResetRelease | selectRelease => exact h.of_commit rfl
  | resetNRelease | strobeEdge | badCommand => exact h.of_frame (.of_ite (.of_commit rfl))
  | acceptance n m => exact h.of_frame (.of_ite (.of_commit (s.takeRequest_commit n m)))
  | responseTransfer n => exact h.responseTransfer n
  | memoryDeviceChange address value => exact h.memoryDeviceChange address value
  | frameOpen => exact h.frameOpen
  | replySpent => exact h.replySpent
  | slotStart => exact h.startIfDue
  | slotEnd check | truncation check => exact h.of_frame (.of_ite (s.endSlot_plansFrame check))
  | forcedBoundary => exact h.of_frame (.of_ite (s.endSlot_plansFrame .checkAfterExpiry))
  | readComplete b | writeComplete b | atomicReadComplete b | atomicPairEnd b | secondaryWriteComplete b
  | recoveryReadComplete b =>
    simp only [Machine.exec, execReadComplete, execWriteComplete, execAtomicReadComplete, execAtomicPairEnd,
      execSecondaryWriteComplete, execRecoveryReadComplete]
    split
    · exact h.result b
    · exact h
  | timeout turns => exact h.of_commit (s.expirePorts_frame turns).commit
  | swapped turns => exact h.swapped turns
  | abandoned => exact h.of_frame (.of_ite s.abandon_plansFrame)
  | syncLost => exact h.loseLock
  | syncPulse => exact h.syncPulse
  | readStatus check => exact h.takeFrame _ check (h.of_frame ⟨rfl, rfl, .inl rfl⟩)
  | readFault check => exact h.takeFrame_of_commit _ check s.popFault_commit
  | readCapture check => exact h.takeFrame_of_commit _ check s.popCapture_commit
  | captureNow check => exact h.takeFrame_of_commit _ check rfl
  | readPlan plan item check => exact h.takeFrame_of_commit _ check (s.readPlan_commit plan item)
  | setAlertMask mask check => exact h.takeFrame_of_commit _ check (s.writeMask_commit mask)
  | setStrobe setting check => exact h.takeFrame_of_commit _ check (s.writeStrobe_commit setting)
  | commit check => exact h.takeFrame _ check h.tryCommit
  | cancelCommit check => exact h.takeFrame _ check (h.of_frame s.cancel_plansFrame)
  | trafficReset check => exact h.takeFrame _ check (h.startIfDue.of_frame (State.trafficReset_plansFrame _))
  | writeGrid row position code check => exact h.editFrame _ check fun _ hstaged _ hp => hstaged.withCode hp
  | writeRegion index image check => exact h.editFrame _ check fun _ hstaged _ hp => hstaged.withRegion hp
  | writeGeometry image check => exact h.editFrame _ check fun _ _ _ hp => Plan.inRange_withGeneral hp
  | writePortLimit port limit check => exact h.editFrame _ check fun _ hstaged _ hp => hstaged.withLimit hp
  | restage check => exact h.editFrame _ check fun _ _ hactive hp => Option.some.inj hp ▸ hactive

end

/-! ### Staged edits (R123, R124) -/

section
variable {s : State} {frame : List Byte} {check : Byte}

theorem State.editStaged_of_none (hnone : s.commit.state = .none) (p : Plan) : s.editStaged (some p) = done (s.setStaged p) :=
  if_neg (not_not.mpr hnone)

/-- A staged edit in commit state NONE whose arguments describe a plan (R123). -/
theorem State.takeFrame_editStaged (hnone : s.commit.state = .none) (h : s.Receives frame check) {edited : State → Option Plan}
    {p : Plan} (hp : edited s = some p) : s.takeFrame frame check (fun t => t.editStaged (edited t)) = { s with
      commit := { s.commit with staged := p }
      link := { s.link with receiver := .replying [0x00, checkByte [0x00]] } } := by
  obtain ⟨hreceiver, hcheck⟩ := h
  simp only [State.takeFrame_of_right s hreceiver hcheck, hp, State.editStaged_of_none hnone]
  rfl

end

/-! ### The default plan (R39, R108, R122) -/

/-- The used rows of the default grid are OPEN but for a REFRESH at the end, and the others are IDLE (R39). -/
theorem defaultPlan_codeAt (p : Fin 8) (b : Bank) : (defaultPlan.grid.get b).codeAt p =
    if b = .lc1 ∨ b = .uc1 then .idle else if p = 7 then .refresh else .openSlot := by
  cases b with
  | lc0 | uc0 => fin_cases p <;> rfl
  | lc1 | uc1 => fin_cases p <;> rfl

theorem defaultPlan_region (i : Fin 16) : defaultPlan.region i = ⟨false, 0, 0, 0, 0, false⟩ := by
  simp [Plan.region, defaultPlan, defaultRegion]

theorem defaultPlan_waitLimit (n : PortId) : defaultPlan.waitLimits.get n = 0 := by
  fin_cases n <;> rfl

end Sys2Proof.Machine

namespace Sys2Proof.Proofs

open Sys2Proof.Machine

/-- Settles O58: a swap installs a plan that passed validation when its commit began, staged edits wait for commit state NONE, and every
other command keeps both plans. -/
theorem plansStayValid : Obligations.PlansStayValid := by
  intro s t h hstep
  unfold step at hstep
  split at hstep
  · cases hstep
    exact h
  · rename_i rest _
    have hrest : ({ s with pending := rest } : State).PlansValid := h.of_commit rfl
    exact (hrest.exec _).next hstep

/-- Settles O5: the default plan by evaluation, and the resets by what each does to the commit controller. -/
theorem plansAtResets : Obligations.PlansAtResets := by
  refine ⟨fun s t hexec => ?_, fun s t n hexec => ?_, fun s t check hdue hexec => ?_, fun s t hexec => ?_, validate_defaultPlan,
    defaultPlan_codeAt, rfl, rfl, rfl, rfl, defaultPlan_waitLimit, defaultPlan_region⟩
  · cases hexec
    exact ⟨rfl, rfl⟩
  · cases hexec
    exact ⟨rfl, rfl⟩
  · have hreset : PlansFrame s s.startIfDue.trafficReset :=
      .trans (.of_commit (s.startIfDue_commit hdue)) (State.trafficReset_plansFrame _)
    cases hexec
    unfold State.takeFrame
    split
    · split
      · exact ⟨hreset.active, hreset.staged⟩
      · exact ⟨rfl, rfl⟩
    · exact ⟨rfl, rfl⟩
  · have hend : PlansFrame s (if s.inSlot && s.forcedFalls then s.endSlot .checkAfterExpiry else s) :=
      .of_ite (s.endSlot_plansFrame .checkAfterExpiry)
    cases hexec
    exact ⟨hend.active, hend.staged⟩

/-- Settles O45: the staged edit with the ACTIVE plan itself. -/
theorem restageCopiesTheActivePlan : Obligations.RestageCopiesTheActivePlan := by
  intro s check hnone hreceives
  have hcopied := State.takeFrame_editStaged (edited := fun t => some t.commit.active) hnone hreceives rfl
  exact ⟨_, congrArg Host.Outcome.next hcopied, rfl, rfl, decide_eq_false (not_not.mpr rfl)⟩

end Sys2Proof.Proofs
end

section
/-! SUPPORT. What the arguments of the staged edits name (12 Table 12-3, Table 12-5, Table 12-6), and what COMMIT and CANCEL_COMMIT do in each
commit state. The statements about the staged edits (O44), COMMIT (O48) and CANCEL_COMMIT (O50). -/

namespace Sys2Proof.Machine

/-! ### Arguments (Table 12-3, Table 12-5) -/

theorem bankOfRow_rowNumber (b : Bank) : bankOfRow (rowNumber b) = some b := by
  cases b <;> rfl

theorem slotCodeOf_value (c : SlotCode) : slotCodeOf c.value = some c := by
  cases c with
  | port n => fin_cases n <;> rfl
  | openSlot | mirror | refresh | idle => rfl

theorem positionOf_of_toNat {v : Byte} {p : Fin 8} (h : v.toNat = p) : positionOf v = some p := by
  simp [positionOf, h]

theorem portOf_of_toNat {v : Byte} {n : PortId} (h : v.toNat = n) : portOf v = some n := by
  simp [portOf, h]

theorem regionOf_of_toNat {v : Byte} {i : Fin 16} (h : v.toNat = i) : regionOf v = some i := by
  simp [regionOf, h]

theorem cycleLengthOf_of_slots {v : Byte} {length : CycleLength} (h : v.toNat = length.slots) :
    cycleLengthOf v = some length := by
  rw [cycleLengthOf, h]
  cases length <;> rfl

/-- A number of 16 bits has its most significant byte first (R189). -/
theorem toNat_word16 (hi lo : Byte) : (word16 hi lo).toNat = 256 * hi.toNat + lo.toNat := by
  rw [word16, BitVec.toNat_append, ← Nat.shiftLeft_add_eq_or_of_lt lo.isLt, Nat.shiftLeft_eq, Nat.mul_comm]

/-! ### The edited plans (R123) -/

section
variable {p : Plan}

theorem Plan.withCode_eq {b : Bank} {position : Fin 8} {code : SlotCode} {row at' value : Byte} (hrow : row.toNat = rowNumber b)
    (hposition : at'.toNat = position) (hcode : value.toNat = code.value) :
    p.withCode row at' value = some { p with grid := p.grid.set b ((p.grid.get b).setCode position code) } := by
  rw [Plan.withCode, hrow, hcode, bankOfRow_rowNumber, positionOf_of_toNat hposition, slotCodeOf_value]

theorem Plan.withRegion_eq {i : Fin 16} {index : Byte} {image : Vector Byte 6} (hindex : index.toNat = i)
    (hflags : image[4].toNat < 4) : p.withRegion index image = some { p with
      regions := p.regions.set i ⟨image[4].getLsbD 0, word16 image[0] image[1], word16 image[2] image[3],
        image[5].extractLsb' 4 4, image[5].extractLsb' 0 4, image[4].getLsbD 1⟩ } := by
  rw [Plan.withRegion, regionOf_of_toNat hindex, regionOfImage, if_pos hflags]

/-- A geometry image with its values in range describes all seven fields (Table 12-6). -/
theorem generalOfImage_eq {length : CycleLength} {image : Vector Byte 4} (hlength : image[0].toNat = length.slots)
    (hflags : image[1].toNat < 32) (hlow : 0 < 256 * image[2].toNat + image[3].toNat)
    (hhigh : 256 * image[2].toNat + image[3].toNat ≤ 4095) : generalOfImage image = some
      ⟨⟨length, image[1].getLsbD 0, if image[1].getLsbD 1 then .mib128 else .mib64,
          if image[1].getLsbD 2 then .static else .dynamic⟩,
        image[1].getLsbD 3, if image[1].getLsbD 4 then .deny else .allow, 256 * image[2].toNat + image[3].toNat⟩ := by
  have hrange : 1 ≤ 256 * image[2].toNat + image[3].toNat := hlow
  simp only [generalOfImage, cycleLengthOf_of_slots hlength, toNat_word16, hflags, hrange, hhigh, decide_true, Bool.and_self,
    if_true]

theorem Plan.withLimit_eq {n : PortId} {port limit : Byte} (hport : port.toNat = n) :
    p.withLimit port limit = some { p with waitLimits := p.waitLimits.set n limit } := by
  rw [Plan.withLimit, portOf_of_toNat hport]
  rfl

end

/-! ### The effects of COMMIT and CANCEL_COMMIT (R128, R135) -/

section
variable {s : State}

theorem State.tryCommit_of_refused (hnone : s.commit.state = .none) {f : PlanFailure} (hf : validate s.commit.staged = some f) :
    s.tryCommit = ⟨s.recordOutcome (.refused f), .ok, [0x02, f.reason, f.location]⟩ := by
  rw [State.tryCommit, if_neg (not_not.mpr hnone), hf]

theorem State.tryCommit_of_same (hnone : s.commit.state = .none) (hvalid : validate s.commit.staged = none)
    (hsame : s.commit.staged.geometry = s.commit.active.geometry) :
    s.tryCommit = ⟨s.setCommitState .waiting, .ok, [0x00, 0x00, 0x00]⟩ := by
  have hchange : s.commit.geometryChange = false := decide_eq_false (not_not.mpr hsame)
  rw [State.tryCommit, if_neg (not_not.mpr hnone), hvalid, hchange]
  rfl

theorem State.tryCommit_of_change (hnone : s.commit.state = .none) (hvalid : validate s.commit.staged = none)
    (hdiffer : s.commit.staged.geometry ≠ s.commit.active.geometry) :
    s.tryCommit = ⟨s.startDrain, .ok, [0x01, 0x00, 0x00]⟩ := by
  have hchange : s.commit.geometryChange = true := decide_eq_true hdiffer
  rw [State.tryCommit, if_neg (not_not.mpr hnone), hvalid, hchange]
  rfl

theorem State.cancel_of_pending (h : s.commit.state ≠ .none) :
    s.cancel = done ((s.recordOutcome .cancelled).setCommitState .none) := by
  rw [State.cancel, if_neg h, State.endCommit, if_neg h]

theorem State.cancel_of_none (h : s.commit.state = .none) : s.cancel = refusal s .empty := if_pos h

/-- The gate of a port with room and no reset is open unless the commit drains (R159). -/
theorem State.gateOpen_of_room {n : PortId} (ht : s.scheduler.timer ≠ .stopped) (hreset : (s.ports.get n).resetLine = false)
    (hroom : (s.ports.get n).completions.length < 8) (hstate : s.commit.state ≠ .draining) : s.gateOpen n = true := by
  simp [State.gateOpen, State.inReset, ht, hreset, hstate, Config.completionCapacity, hroom]

end

end Sys2Proof.Machine

namespace Sys2Proof.Proofs

open Sys2Proof.Machine

/-- Settles O44: each edit by what its arguments name. -/
theorem stagedEdits : Obligations.StagedEdits := by
  intro s check hnone
  refine ⟨fun b position code row at' value hrow hposition hcode hreceives => ?_,
    fun i index image hindex hflags hreceives => ?_, fun length image hlength hflags hlow hhigh hreceives => ?_,
    fun n port limit hport hreceives => ?_⟩
  · exact congrArg Host.Outcome.next (State.takeFrame_editStaged hnone hreceives (Plan.withCode_eq hrow hposition hcode))
  · exact congrArg Host.Outcome.next (State.takeFrame_editStaged hnone hreceives (Plan.withRegion_eq hindex hflags))
  · refine congrArg Host.Outcome.next (State.takeFrame_editStaged hnone hreceives ?_)
    rw [Plan.withGeneral, generalOfImage_eq hlength hflags hlow hhigh]
    rfl
  · exact congrArg Host.Outcome.next (State.takeFrame_editStaged hnone hreceives (Plan.withLimit_eq hport))

/-- Settles O48: COMMIT by the three cases of R128. -/
theorem commitValidates : Obligations.CommitValidates := by
  intro s check hnone hreceives
  obtain ⟨hreceiver, hcheck⟩ := hreceives
  refine ⟨fun f hf => ?_, fun hvalid hsame => ?_, fun hvalid hdiffer => ?_⟩
  · rw [exec, execCommit, State.takeFrame_of_right s hreceiver hcheck, State.tryCommit_of_refused hnone hf]
    rfl
  · rw [exec, execCommit, State.takeFrame_of_right s hreceiver hcheck, State.tryCommit_of_same hnone hvalid hsame]
    rfl
  · rw [exec, execCommit, State.takeFrame_of_right s hreceiver hcheck, State.tryCommit_of_change hnone hvalid hdiffer]
    rfl

/-- Settles O50: a pending commit ends, and a gate that only the drain closed opens; in commit state NONE there is nothing to end. -/
theorem cancelCommit : Obligations.CancelCommit := by
  intro s check hreceives
  obtain ⟨hreceiver, hcheck⟩ := hreceives
  refine ⟨fun hpending => ⟨_, ?_, rfl, fun n ht hreset hroom => State.gateOpen_of_room ht hreset hroom nofun⟩, fun hnone => ?_⟩
  · rw [exec, execCancelCommit, State.takeFrame_of_right s hreceiver hcheck, State.cancel_of_pending hpending]
    rfl
  · rw [exec, execCancelCommit, State.takeFrame_of_right s hreceiver hcheck, State.cancel_of_none hnone]
    rfl

end Sys2Proof.Proofs
end

section
/-! SUPPORT. A swap by the commit state (R129, R134), and the run of NO-LINK completions of a plain swap: each takes the oldest WAITING atomic
of a port that has no pair in the new grid (R49). The statements about the two swaps (O36, O37). -/

namespace Sys2Proof.Machine

/-! ### SWAPPED (R129) -/

section
variable {s : State} {turns : List PortId}

theorem exec_swapped_of_due (h : s.swapDue = true) : exec (.swapped turns) s = .next (s.swap turns) := by
  rw [exec, execSwapped, if_pos h]

theorem exec_swapped_of_not_due (h : s.swapDue = false) : exec (.swapped turns) s = .next s := by
  rw [exec, execSwapped, h, if_neg Bool.false_ne_true]

theorem State.swapDue_of_waiting (hdue : s.commit.reactionDue = true) (hstate : s.commit.state = .waiting) : s.swapDue = true :=
  State.swapDue_iff.mpr ⟨hdue, .inl hstate⟩

theorem State.swap_of_waiting (hstate : s.commit.state = .waiting) :
    s.swap turns = s.loseLock.installed.noLinkCompletions turns := by
  rw [State.swap_eq, s.loseLock_frame.commit, if_neg (by rw [hstate]; nofun)]

theorem State.swap_of_draining (hstate : s.commit.state = .draining) : s.swap turns = s.loseLock.installed.geometryReactions := by
  rw [State.swap_eq, s.loseLock_frame.commit, if_pos hstate]

/-- Nothing is swapped without a boundary, in commit state NONE, and in a drain that is not empty (R129, R132). -/
theorem State.swapDue_eq_false (h : s.commit.reactionDue = false ∨ s.commit.state = .none
    ∨ (s.commit.state = .draining ∧ s.drained = false)) : s.swapDue = false := by
  rcases h with h | h | ⟨hstate, hdrained⟩
  · simp [State.swapDue, h]
  · simp [State.swapDue, h]
  · simp [State.swapDue, hstate, hdrained]

end

/-! ### NO-LINK completions (R49) -/

/-- The WAITING atomics of a port that have no pair in the ACTIVE grid, oldest first. -/
def State.unpaired (s : State) (n : PortId) : List QueueEntry :=
  (s.queues.get n).filter fun e => e.lacksPair s.commit.active n

/-- The NO-LINK record of an entry (R49, R17). -/
def State.noLinkRecord (s : State) (n : PortId) (e : QueueEntry) : FaultRecord :=
  ⟨.noLink, some n, s.tagOf n e.ref, some e.address, some e.bank, none, s.scheduler.cycleCount, 0⟩

/-- A completion entry after the NO-LINK completions of some requests: DONE NO-LINK without data if its request is one of them (R49). -/
def CompletionEntry.afterNoLink (c : CompletionEntry) (gone : List QueueEntry) : CompletionEntry :=
  if gone.any (fun e => decide (e.ref = c.ref)) then { c with state := .done ⟨.noLink, [], false⟩ } else c

section
variable (c : CompletionEntry) (gone gone' : List QueueEntry)

theorem CompletionEntry.afterNoLink_nil : c.afterNoLink [] = c := rfl

theorem CompletionEntry.afterNoLink_ref : (c.afterNoLink gone).ref = c.ref := by
  unfold CompletionEntry.afterNoLink
  split <;> rfl

theorem CompletionEntry.afterNoLink_tag : (c.afterNoLink gone).tag = c.tag := by
  unfold CompletionEntry.afterNoLink
  split <;> rfl

theorem CompletionEntry.afterNoLink_append : (c.afterNoLink gone).afterNoLink gone' = c.afterNoLink (gone ++ gone') := by
  cases h : gone.any (fun e => decide (e.ref = c.ref)) <;> simp [CompletionEntry.afterNoLink, h]

variable {c} in
/-- The end of one request that is still PENDING. -/
theorem CompletionEntry.afterNoLink_singleton {e : QueueEntry} (h : c.ref = e.ref → c.state = .pending) :
    c.finish e.ref (bareResult .noLink) = c.afterNoLink [e] := by
  by_cases hc : c.ref = e.ref
  · simp [CompletionEntry.finish, CompletionEntry.afterNoLink, hc, h hc, bareResult]
  · simp [CompletionEntry.finish, CompletionEntry.afterNoLink, hc, Ne.symm hc]

end

/-- State `t` is `s` after the NO-LINK completions of the entries `gone`, with their records in some order; in every port the oldest have gone
first. -/
structure NoLinkedTo (s t : State) (gone : PortId → List QueueEntry) (records : List FaultRecord) : Prop where
  frame    : TrafficFrame s t
  unpaired : ∀ n, s.unpaired n = gone n ++ t.unpaired n
  queue    : ∀ n, t.queues.get n = (s.queues.get n).filter fun e => !(gone n).contains e
  port     : ∀ n, t.ports.get n = { s.ports.get n with
    completions := (s.ports.get n).completions.map fun c => c.afterNoLink (gone n) }
  link     : t.link = records.foldl LinkController.report s.link
  made     : ∀ n, records.filter (fun r => decide (r.port = some n)) = (gone n).map (s.noLinkRecord n)
  named    : ∀ r ∈ records, r.port ≠ none

theorem NoLinkedTo.refl (s : State) : NoLinkedTo s s (fun _ => []) [] := by
  refine ⟨.refl s, fun n => rfl, fun n => ?_, fun n => ?_, rfl, fun n => rfl, fun r hr => by cases hr⟩
  · simp
  · simp [CompletionEntry.afterNoLink_nil]

section
variable {s t u : State} {gone gone' : PortId → List QueueEntry} {records records' : List FaultRecord} {n : PortId}

theorem NoLinkedTo.tagOf (h : NoLinkedTo s t gone records) (n : PortId) (ref : Nat) : t.tagOf n ref = s.tagOf n ref := by
  rw [State.tagOf, State.tagOf, h.port n, List.find?_map, Option.map_map]
  simp only [Function.comp_def, CompletionEntry.afterNoLink_ref, CompletionEntry.afterNoLink_tag]

theorem NoLinkedTo.noLinkRecord (h : NoLinkedTo s t gone records) (n : PortId) : t.noLinkRecord n = s.noLinkRecord n := by
  funext e
  rw [State.noLinkRecord, State.noLinkRecord, h.tagOf, h.frame.scheduler]

theorem NoLinkedTo.trans (h : NoLinkedTo s t gone records) (k : NoLinkedTo t u gone' records') :
    NoLinkedTo s u (fun n => gone n ++ gone' n) (records ++ records') := by
  refine ⟨h.frame.trans k.frame, fun n => ?_, fun n => ?_, fun n => ?_, ?_, fun n => ?_, fun r hr => ?_⟩
  · rw [h.unpaired, k.unpaired, List.append_assoc]
  · rw [k.queue, h.queue, List.filter_filter]
    exact List.filter_congr fun e _ => by simp [Bool.and_comm]
  · rw [k.port, h.port, List.map_map]
    simp only [Function.comp_def, CompletionEntry.afterNoLink_append]
  · rw [k.link, h.link, List.foldl_append]
  · rw [List.filter_append, h.made, k.made, h.noLinkRecord, List.map_append]
  · exact (List.mem_append.mp hr).elim (h.named r) (k.named r)


/-! ### One completion -/

/-- The first of a list without duplicates that meets a test, and the others. -/
theorem filter_eq_cons_of_find? {α : Type} [DecidableEq α] {l : List α} {p : α → Bool} {e : α} (hnodup : l.Nodup)
    (he : l.find? p = some e) : l.filter p = e :: (l.filter fun x => decide (x ≠ e)).filter p := by
  obtain ⟨rest, hrest⟩ := List.head?_eq_some_iff.mp (List.head?_filter.trans he)
  have hfresh : e ∉ rest := by
    have hfiltered := hnodup.filter p
    rw [hrest] at hfiltered
    exact (List.nodup_cons.mp hfiltered).1
  have hothers : (rest.filter fun x => decide (x ≠ e)) = rest :=
    List.filter_eq_self.mpr fun x hx => decide_eq_true fun heq => hfresh (heq ▸ hx)
  rw [List.filter_comm, hrest, List.filter_cons_of_neg (by simp), hothers]

/-- The oldest unpaired atomic of a port leaves. -/
structure State.NoLinkNext (s : State) (n : PortId) (e : QueueEntry) : Prop where
  tied   : s.RefsTied
  oldest : (s.queues.get n).find? (fun x => x.lacksPair s.commit.active n) = some e

variable {e : QueueEntry}

theorem State.NoLinkNext.mem (h : s.NoLinkNext n e) : e ∈ s.queues.get n := List.mem_of_find?_eq_some h.oldest

theorem State.NoLinkNext.completeNoLink (h : s.NoLinkNext n e) : s.completeNoLink n = s.failEntry n e .noLink .noLink 0 := by
  rw [State.completeNoLink, h.oldest]

theorem State.NoLinkNext.queue (h : s.NoLinkNext n e) (m : PortId) : (s.completeNoLink n).queues.get m =
    if m = n then (s.queues.get n).filter fun x => decide (x ≠ e) else s.queues.get m := by
  rw [h.completeNoLink, State.failEntry_eq, PerPort.get_set]
  refine if_congr Iff.rfl (List.filter_congr fun x hx => ?_) rfl
  have hsame : x.ref = e.ref ↔ x = e := ⟨h.tied.tied.eq_of_ref h.tied.refs h.mem hx, fun heq => by rw [heq]⟩
  simp [QueueEntry.hasRef, hsame]

theorem State.NoLinkNext.unpaired (h : s.NoLinkNext n e) (m : PortId) :
    s.unpaired m = (if m = n then [e] else []) ++ (s.completeNoLink n).unpaired m := by
  have hqueue := h.queue m
  rw [State.unpaired, State.unpaired, hqueue, (s.completeNoLink_frame n).commit]
  split
  · rename_i hm
    subst hm
    exact filter_eq_cons_of_find? (List.Nodup.of_map _ (h.tied.tied.nodup h.tied.refs m)) h.oldest
  · rfl

/-- One NO-LINK completion (R49). -/
theorem State.NoLinkNext.noLinkedTo (h : s.NoLinkNext n e) :
    NoLinkedTo s (s.completeNoLink n) (fun m => if m = n then [e] else []) [s.noLinkRecord n e] := by
  refine ⟨s.completeNoLink_frame n, h.unpaired, fun m => ?_, fun m => ?_, ?_, fun m => ?_, fun r hr => ?_⟩
  · rw [h.queue]
    split
    · rename_i hm
      subst hm
      simp
    · simp
  · rw [h.completeNoLink, State.failEntry_eq, PerPort.get_set]
    split
    · rename_i hm
      subst hm
      have hcompletions : (s.ports.get m).completions.map (fun c => c.finish e.ref (bareResult .noLink))
          = (s.ports.get m).completions.map fun c => c.afterNoLink [e] :=
        List.map_congr_left fun c hc =>
          CompletionEntry.afterNoLink_singleton (h.tied.tied.pending_of_ref h.tied.refs h.mem hc)
      rw [hcompletions]
    · simp [CompletionEntry.afterNoLink_nil]
  · rw [h.completeNoLink]
    rfl
  · by_cases hm : m = n
    · subst hm
      simp [State.noLinkRecord]
    · simp [State.noLinkRecord, hm, Ne.symm hm]
  · rw [List.mem_singleton.mp hr]
    exact Option.some_ne_none n

/-! ### The whole run -/

/-- From tied lists, `t` is reached by NO-LINK completions, and its lists are tied. -/
def State.NoLinks (s t : State) : Prop := s.RefsTied → t.RefsTied ∧ ∃ gone records, NoLinkedTo s t gone records

theorem State.NoLinks.refl (s : State) : s.NoLinks s := fun h => ⟨h, _, _, .refl s⟩

theorem State.NoLinks.trans (h : s.NoLinks t) (k : t.NoLinks u) : s.NoLinks u := by
  intro hs
  obtain ⟨ht, gone, records, hst⟩ := h hs
  obtain ⟨hu, gone', records', htu⟩ := k ht
  exact ⟨hu, _, _, hst.trans htu⟩

theorem State.completeNoLink_noLinks (s : State) (n : PortId) : s.NoLinks (s.completeNoLink n) := by
  intro h
  refine ⟨h.of_frame (s.completeNoLink_refsFrame n), ?_⟩
  cases he : (s.queues.get n).find? (fun e => e.lacksPair s.commit.active n) with
  | none =>
    have hsame : s.completeNoLink n = s := by rw [State.completeNoLink, he]
    rw [hsame]
    exact ⟨_, _, .refl s⟩
  | some e => exact ⟨_, _, State.NoLinkNext.noLinkedTo ⟨h, he⟩⟩

theorem State.completeNoLinks_noLinks (s : State) (n : PortId) : s.NoLinks (s.completeNoLinks n) :=
  foldl_of_step .refl .trans (fun t _ => t.completeNoLink_noLinks n) _ s

theorem State.noLinkCompletions_noLinks (s : State) (turns : List PortId) : s.NoLinks (s.noLinkCompletions turns) :=
  (foldl_of_step .refl .trans State.completeNoLink_noLinks turns s).trans
    (foldl_of_step .refl .trans State.completeNoLinks_noLinks allPorts _)

/-! ### None is left -/

/-- One completion takes the oldest of the unpaired atomics of its port, if there is one. -/
theorem State.RefsTied.unpaired_completeNoLink (h : s.RefsTied) (n : PortId) :
    (s.completeNoLink n).unpaired n = (s.unpaired n).drop 1 := by
  cases he : (s.queues.get n).find? (fun e => e.lacksPair s.commit.active n) with
  | none =>
    have hnone : s.unpaired n = [] := List.filter_eq_nil_iff.mpr (List.find?_eq_none.mp he)
    have hsame : s.completeNoLink n = s := by rw [State.completeNoLink, he]
    rw [hsame, hnone]
    rfl
  | some e =>
    rw [State.NoLinkNext.unpaired ⟨h, he⟩ n, if_pos rfl]
    rfl

theorem State.RefsTied.unpaired_foldl {α : Type} (l : List α) (h : s.RefsTied) (n : PortId) :
    (l.foldl (fun t _ => t.completeNoLink n) s).unpaired n = (s.unpaired n).drop l.length := by
  induction l generalizing s with
  | nil => rfl
  | cons x rest ih =>
    rw [List.foldl_cons, ih (h.of_frame (s.completeNoLink_refsFrame n)), h.unpaired_completeNoLink, List.drop_drop,
      List.length_cons, Nat.add_comm]

/-- The completions of a port leave none of its atomics unpaired. -/
theorem State.RefsTied.unpaired_completeNoLinks (h : s.RefsTied) (n : PortId) : (s.completeNoLinks n).unpaired n = [] := by
  have hall := h.unpaired_foldl (s.unpaired n) n
  rw [List.drop_length] at hall
  exact hall

/-- Completions make no atomic unpaired. -/
theorem State.NoLinks.unpaired_eq_nil (k : s.NoLinks t) (h : s.RefsTied) (hnone : s.unpaired n = []) : t.unpaired n = [] := by
  obtain ⟨-, gone, records, hst⟩ := k h
  have hsplit := hst.unpaired n
  rw [hnone] at hsplit
  exact (List.append_eq_nil_iff.mp hsplit.symm).2

theorem State.RefsTied.unpaired_foldl_ports (h : s.RefsTied) {l : List PortId} (hn : n ∈ l) :
    (l.foldl State.completeNoLinks s).unpaired n = [] := by
  induction l generalizing s with
  | nil => cases hn
  | cons m rest ih =>
    have hnext : (s.completeNoLinks m).RefsTied := h.of_frame (s.completeNoLinks_refsFrame m)
    rw [List.foldl_cons]
    rcases List.mem_cons.mp hn with rfl | hrest
    · exact State.NoLinks.unpaired_eq_nil (foldl_of_step .refl .trans State.completeNoLinks_noLinks rest _) hnext
        (h.unpaired_completeNoLinks n)
    · exact ih hnext hrest

/-- The NO-LINK completions of a plain swap complete every unpaired atomic, with the records in some order (R49). -/
theorem State.RefsTied.noLinkCompletions (h : s.RefsTied) (turns : List PortId) :
    ∃ records, NoLinkedTo s (s.noLinkCompletions turns) s.unpaired records := by
  obtain ⟨-, gone, records, hrun⟩ := s.noLinkCompletions_noLinks turns h
  have hturns : (turns.foldl State.completeNoLink s).RefsTied :=
    (foldl_of_step .refl .trans State.completeNoLink_noLinks turns s h).1
  have hgone : gone = s.unpaired := by
    funext n
    have hleft : (s.noLinkCompletions turns).unpaired n = [] := hturns.unpaired_foldl_ports (mem_allPorts n)
    rw [hrun.unpaired n, hleft, List.append_nil]
  exact ⟨records, hgone ▸ hrun⟩

/-- An entry of a queue has gone exactly if it is an unpaired atomic. -/
theorem State.filter_not_unpaired (s : State) (n : PortId) :
    ((s.queues.get n).filter fun e => !(s.unpaired n).contains e)
      = (s.queues.get n).filter fun e => !e.lacksPair s.commit.active n :=
  List.filter_congr fun e he => by
    cases hlacks : e.lacksPair s.commit.active n <;> simp [State.unpaired, he, hlacks]

/-- Without an unpaired atomic nothing completes. -/
theorem State.noLinkCompletions_of_none (h : ∀ n, s.unpaired n = []) (turns : List PortId) : s.noLinkCompletions turns = s := by
  have hone (n : PortId) : s.completeNoLink n = s := by
    have hnone : (s.queues.get n).find? (fun e => e.lacksPair s.commit.active n) = none :=
      List.find?_eq_none.mpr (List.filter_eq_nil_iff.mp (h n))
    rw [State.completeNoLink, hnone]
  have hport (n : PortId) : s.completeNoLinks n = s := by
    have hnil : ((s.queues.get n).filter fun e => e.lacksPair s.commit.active n) = [] := h n
    rw [State.completeNoLinks, hnil]
    rfl
  rw [State.noLinkCompletions, List.foldl_fixed' hone turns, List.foldl_fixed' hport allPorts]

end

/-! ### The plan installed (R129, R143) -/

section
variable {s : State}

theorem SyncUnit.takeEnable_eq (u : SyncUnit) (old new : Bool) : u.takeEnable old new = match old, new with
    | false, true => { u with state := .seeking, missCount := 0 }
    | true, false => { u with state := .free, missCount := 0 }
    | _, _ => u := by
  cases old <;> cases new <;> rfl

theorem State.installed_eq (s : State) : s.installed = { s with
    commit := { s.commit with
      active := s.commit.staged, state := .none, reactionDue := false
      record := ⟨some (.swapped, s.scheduler.cycleCount), true⟩ }
    sync := match s.commit.active.syncEnable, s.commit.staged.syncEnable with
      | false, true => { s.sync with state := .seeking, missCount := 0 }
      | true, false => { s.sync with state := .free, missCount := 0 }
      | _, _ => s.sync } := by
  rw [State.installed, SyncUnit.takeEnable_eq]
  rfl

theorem State.RefsTied.installed (h : s.RefsTied) : s.installed.RefsTied := h.of_frame (.of_eq rfl rfl rfl)

theorem State.loseLock_queues (s : State) : s.loseLock.queues = s.queues := by
  unfold State.loseLock
  split <;> rfl

end

end Sys2Proof.Machine

namespace Sys2Proof.Proofs

open Sys2Proof.Machine

/-- Settles O37: an emptied drain is a swap that is due, and it takes the geometry reactions. -/
theorem geometrySwap : Obligations.GeometrySwap := by
  refine ⟨fun s turns hdue hstate hlost hqueues hbacklogs => ?_, fun s turns h => ?_⟩
  · have hswap : s.swapDue = true := State.swapDue_iff.mpr ⟨hdue, .inr ⟨hstate, State.drained_iff.mpr ⟨hqueues, hbacklogs⟩⟩⟩
    rw [exec_swapped_of_due hswap, State.swap_of_draining hstate, State.loseLock_of_not_due s hlost,
      State.installed_eq]
    rfl
  · rw [← State.drained_eq_false_iff] at h
    exact exec_swapped_of_not_due (State.swapDue_eq_false h)

/-- Settles O36: a plain swap installs the plan and completes the atomics that it leaves without a pair; a loss of lock that is due is taken
within the swap, before anything else. -/
theorem plainSwap : Obligations.PlainSwap := by
  refine ⟨fun s turns hdue hstate hlost hpairs => ?_, fun s t turns n hrefs htied hdue hstate hexec => ?_,
    fun s t turns hrefs htied hdue hstate hlost hexec => ?_, fun s u turns hswap hexec => ?_⟩
  · have hnone (n : PortId) : s.installed.unpaired n = [] :=
      List.filter_eq_nil_iff.mpr fun e he => ne_true_of_eq_false (hpairs n e he)
    rw [exec_swapped_of_due (State.swapDue_of_waiting hdue hstate), State.swap_of_waiting hstate,
      State.loseLock_of_not_due s hlost, State.noLinkCompletions_of_none hnone]
    exact congrArg Host.Outcome.next s.installed_eq
  · rw [exec_swapped_of_due (State.swapDue_of_waiting hdue hstate), State.swap_of_waiting hstate] at hexec
    cases hexec
    have hinstalled : s.loseLock.installed.RefsTied :=
      (State.RefsTied.of_frame ⟨htied, hrefs⟩ s.loseLock_refsFrame).installed
    obtain ⟨records, hrun⟩ := hinstalled.noLinkCompletions turns
    have hqueues : s.loseLock.installed.queues = s.queues := s.loseLock_queues
    have hactive : s.loseLock.installed.commit.active = s.commit.staged := congrArg (·.staged) s.loseLock_frame.commit
    rw [hrun.queue, State.filter_not_unpaired, hqueues, hactive]
  · rw [exec_swapped_of_due (State.swapDue_of_waiting hdue hstate), State.swap_of_waiting hstate,
      State.loseLock_of_not_due s hlost] at hexec
    cases hexec
    have htied : s.installed.RefsTied := State.RefsTied.installed ⟨htied, hrefs⟩
    obtain ⟨records, hrun⟩ := htied.noLinkCompletions turns
    have hqueues : (s.installed.noLinkCompletions turns).queues = s.installed.queues.mapPort fun n q =>
        q.filter fun e => !(s.installed.unpaired n).contains e :=
      PerPort.ext_get fun n => by rw [hrun.queue, PerPort.get_mapPort]
    have hports : (s.installed.noLinkCompletions turns).ports = s.installed.ports.mapPort fun n p => { p with
        completions := p.completions.map fun c => c.afterNoLink (s.installed.unpaired n) } :=
      PerPort.ext_get fun n => by rw [hrun.port, PerPort.get_mapPort]
    refine ⟨records, hrun.made, hrun.named, hrun.frame.eq_update.trans ?_⟩
    rw [hqueues, hports, hrun.link, LinkController.foldl_report, State.installed_eq]
    rfl
  · cases hexec
    rw [exec_swapped_of_due hswap, exec_swapped_of_due (s.swapDue_loseLock.trans hswap), State.swap_loseLock]

end Sys2Proof.Proofs
end

section
/-! SUPPORT. The commit controller's reaction to a boundary by what the drain check finds (R132), the boundary with the check taken first
beside the one with the check taken later (R133; log entry 4), and the statement about drain checks (O38). -/

namespace Sys2Proof.Machine

/-! ### What a drain check finds (R132) -/

section
variable {s : State} {turns : List PortId}

theorem State.abandonDue_iff : s.abandonDue = true ↔ s.commit.reactionDue = true ∧ s.commit.state = .draining
    ∧ s.drained = false ∧ s.commit.active.drainLimit < s.commit.drainCount + 1 := by
  simp only [State.abandonDue, Bool.and_eq_true, decide_eq_true_eq, Bool.not_eq_true', and_assoc]

/-- A drain that holds traffic and is within its limit neither swaps nor is given up. -/
theorem State.no_end_of_draining (hstate : s.commit.state = .draining) (hleft : s.drained = false)
    (hlimit : s.commit.drainCount + 1 ≤ s.commit.active.drainLimit) : s.swapDue = false ∧ s.abandonDue = false := by
  constructor
  · exact State.swapDue_eq_false (.inr (.inr ⟨hstate, hleft⟩))
  · rw [← Bool.not_eq_true, State.abandonDue_iff]
    rintro ⟨-, -, -, hpast⟩
    omega

theorem State.no_end_of_none (hstate : s.commit.state = .none) : s.swapDue = false ∧ s.abandonDue = false := by
  constructor
  · exact State.swapDue_eq_false (.inr (.inl hstate))
  · rw [← Bool.not_eq_true, State.abandonDue_iff, hstate]
    rintro ⟨-, hdraining, -⟩
    cases hdraining

/-- One more in the drain count of a drain (R132). -/
theorem State.countDrain_of_draining (hstate : s.commit.state = .draining) : s.countDrain =
    { s with commit := { s.commit with drainCount := s.commit.drainCount + 1, reactionDue := false } } := by
  rw [State.countDrain, if_pos hstate]
  rfl

theorem State.countDrain_of_none (hstate : s.commit.state = .none) :
    s.countDrain = { s with commit := { s.commit with reactionDue := false } } := by
  rw [State.countDrain, if_neg (by rw [hstate]; nofun)]
  rfl

theorem State.commitReaction_of_no_end (hdue : s.commit.reactionDue = true) (h : s.swapDue = false ∧ s.abandonDue = false)
    (turns : List PortId) : s.commitReaction turns = s.countDrain := by
  obtain ⟨hswap, habandon⟩ := h
  rw [State.commitReaction, hswap, habandon, hdue]
  rfl

theorem State.countDrain_loseLock (s : State) : s.loseLock.countDrain = s.countDrain.loseLock := by
  have h : s.countDrain.sync = s.sync := rfl
  unfold State.loseLock
  rw [h]
  split <;> rfl

theorem exec_abandoned_of_due (h : s.abandonDue = true) : exec .abandoned s = .next s.abandon := by
  rw [exec, execAbandoned, if_pos h]

theorem exec_abandoned_of_not_due (h : s.abandonDue = false) : exec .abandoned s = .next s := by
  rw [exec, execAbandoned, h, if_neg Bool.false_ne_true]

/-- A slot start takes the count of a drain check first (R132; log entry 4). -/
theorem exec_slotStart_countDrain (ht : s.scheduler.timer = .starting) (hdue : s.commit.reactionDue = true)
    (h : s.swapDue = false ∧ s.abandonDue = false) : exec .slotStart s = exec .slotStart s.countDrain := by
  refine exec_slotStart_congr ht ht ?_
  obtain ⟨hswap, habandon⟩ := h
  have hlost : s.loseLock.commit.reactionDue = true := by rw [s.loseLock_frame.commit, hdue]
  have hcounted : s.countDrain.loseLock.commit.reactionDue = false :=
    congrArg (·.reactionDue) (State.loseLock_frame _).commit
  rw [State.commitReaction_of_no_end hlost ⟨s.swapDue_loseLock.trans hswap, s.abandonDue_loseLock.trans habandon⟩,
    State.countDrain_loseLock, State.commitReaction_of_not_due _ _ hcounted]

/-! ### The boundary, with the check taken first or later (R133) -/

/-- Ageing empties no queue. -/
theorem State.drained_cycleReactions (s : State) : (s.cycleReactions .checkAfterExpiry).drained = s.drained := by
  have haged (n : PortId) : ((s.cycleReactions .checkAfterExpiry).queues.get n).isEmpty = (s.queues.get n).isEmpty := by
    rw [State.cycleReactions_eq (.inl rfl), PerPort.get_mapPort, List.isEmpty_map]
  simp only [State.drained, State.queuesEmpty, haged]
  rfl

/-- With the check taken first, a boundary is the one with the check taken later, but for a reaction that ends no commit. -/
theorem State.cycleReactions_checkFirst (s : State) : s.cycleReactions .checkFirst =
    if (s.cycleReactions .checkAfterExpiry).swapDue || (s.cycleReactions .checkAfterExpiry).abandonDue then
      s.cycleReactions .checkAfterExpiry
    else (s.cycleReactions .checkAfterExpiry).countDrain := rfl

/-- A bank that is in the first slot of a pair is so after it has handed back. -/
theorem State.HandsBack.inFirstSlot {b : Bank} {t : State} (h : s.HandsBack b t) (hfirst : (s.banks.get b).inFirstSlot = true) :
    (t.banks.get b).inFirstSlot = true := by
  have cleared : ((s.clearOperation b).banks.get b).inFirstSlot = true := by
    rw [State.clearOperation_eq, PerBank.get_set_self]
    exact hfirst
  cases h with
  | nothing => exact hfirst
  | pairEnd pair second => simp [Sequencer.inFirstSlot, pair, second] at hfirst
  | atomicRead operation pair first =>
    rw [State.endAtomicRead_banks, PerBank.get_set_self]
    exact decide_eq_true first
  | read => rw [State.endRead_banks]; exact cleared
  | write => rw [State.endWrite_banks]; exact cleared
  | recovery => rw [State.endRecovery_banks]; exact cleared
  | secondary | refresh | stray => exact cleared

theorem State.heldOpen_iff : s.heldOpen = true ↔ ∃ b, (s.banks.get b).inFirstSlot = true := by
  simp [State.heldOpen, List.any_eq_true]

/-- An atomic that holds a boundary open before the results does so after them (R16, R147). -/
theorem State.heldOpen_endBank (h : s.heldOpen = true) (b : Bank) : (s.endBank b).heldOpen = true := by
  obtain ⟨c, hc⟩ := State.heldOpen_iff.mp h
  refine State.heldOpen_iff.mpr ⟨c, ?_⟩
  by_cases hcb : c = b
  · subst hcb
    exact (s.endBank_handsBack c).inFirstSlot hc
  · rw [State.endBank_banks_of_ne hcb]
    exact hc

theorem State.heldOpen_settle_endBanks (s : State) : s.settle.endBanks.heldOpen = s.heldOpen := by
  have hsettle : s.settle.heldOpen = s.heldOpen := by rw [State.heldOpen, State.heldOpen, s.settle_frame.banks]
  rw [← hsettle]
  cases h : s.settle.heldOpen with
  | false => exact State.endBanks_heldOpen h
  | true => exact foldl_keeps (P := fun t => t.heldOpen = true) (fun _ b h => State.heldOpen_endBank h b) allBanks h

/-- A normal or truncated boundary falls at the end of the slot in progress (R13, R147). -/
structure State.CycleEnds (s : State) : Prop where
  unforced : s.forcedFalls = false
  falls    : s.truncationFalls = true ∨ s.slots ≤ s.scheduler.position + 1

/-- It falls after the results have been handed back too. -/
theorem State.CycleEnds.settle_endBanks (h : s.CycleEnds) : s.settle.endBanks.CycleEnds := by
  have hopen := s.heldOpen_settle_endBanks
  have hscheduler : s.settle.endBanks.scheduler = s.scheduler := (State.endBanks_frame _).scheduler.trans s.settle_frame.scheduler
  have hcommit : s.settle.endBanks.commit = s.commit := (State.endBanks_frame _).commit.trans s.settle_frame.commit
  have htruncation : s.settle.endBanks.sync.truncationPending = s.sync.truncationPending := by
    rw [(State.endBanks_frame _).sync, s.settle_frame.truncation]
  obtain ⟨hunforced, hfalls⟩ := h
  constructor
  · rwa [State.forcedFalls, hscheduler, hopen]
  · rwa [State.truncationFalls, State.slots, htruncation, hopen, hscheduler, hcommit]

/-- Such a slot end is the cycle's reactions, whatever the order of the check. -/
theorem State.CycleEnds.exists_advance (h : s.CycleEnds) : ∃ t : State, ∀ check, s.advance check = t.cycleReactions check := by
  by_cases hp : s.slots ≤ s.scheduler.position + 1
  · exact ⟨s, fun check => State.advance_of_normal h.unforced hp⟩
  · have htruncation : s.truncationFalls = true := h.falls.resolve_right hp
    have hkind : s.slotEndKind = .truncated := by simp [State.slotEndKind, h.unforced, Nat.lt_of_not_le hp, htruncation]
    exact ⟨s.setDebts, fun check => by rw [State.advance, hkind]⟩

/-- The slot end of a normal or truncated boundary, by the order of its drain check (R133; log entry 4). -/
theorem State.CycleEnds.endSlot (h : s.CycleEnds) : (s.endSlot .checkAfterExpiry).commit.reactionDue = true
    ∧ s.endSlot .checkFirst = if (s.endSlot .checkAfterExpiry).swapDue || (s.endSlot .checkAfterExpiry).abandonDue then
        s.endSlot .checkAfterExpiry
      else (s.endSlot .checkAfterExpiry).countDrain := by
  obtain ⟨t, ht⟩ := h.settle_endBanks.exists_advance
  simp only [State.endSlot, ht]
  exact ⟨rfl, t.cycleReactions_checkFirst⟩

/-- A reaction that ends a commit stays due with the check taken first. -/
theorem State.CycleEnds.endSlot_of_end (h : s.CycleEnds)
    (hend : (s.endSlot .checkAfterExpiry).swapDue = true ∨ (s.endSlot .checkAfterExpiry).abandonDue = true) :
    s.endSlot .checkFirst = s.endSlot .checkAfterExpiry := by
  obtain ⟨-, hfirst⟩ := h.endSlot
  rw [hfirst, if_pos (by simpa using hend)]

theorem State.CycleEnds.endSlot_of_no_end (h : s.CycleEnds)
    (hend : (s.endSlot .checkAfterExpiry).swapDue = false ∧ (s.endSlot .checkAfterExpiry).abandonDue = false) :
    s.endSlot .checkFirst = (s.endSlot .checkAfterExpiry).countDrain := by
  obtain ⟨-, hfirst⟩ := h.endSlot
  obtain ⟨hswap, habandon⟩ := hend
  rw [hfirst, hswap, habandon]
  rfl

/-- Both commands of such a slot end take it. -/
theorem State.CycleEnds.taken (h : s.CycleEnds) (ht : s.scheduler.timer = .running) {check : DrainCheckOrder} {t : State}
    (hend : s.endSlot check = t) : exec (.slotEnd check) s = .next t
      ∧ (s.truncationFalls = true → exec (.truncation check) s = .next t) := by
  rw [← hend]
  exact ⟨exec_slotEnd_of_running ht, fun hfalls => exec_truncation_of_falls ht hfalls h.unforced⟩

end

end Sys2Proof.Machine

namespace Sys2Proof.Proofs

open Sys2Proof.Machine

/-- Settles O38: ABANDONED by the condition of R132, the count at a slot start or with the slot end, and the boundary in both orders of its
check. -/
theorem drainChecks : Obligations.DrainChecks := by
  refine ⟨fun s => ⟨fun hdue hstate hleft hlimit => ?_, fun h => ?_⟩,
    fun s hstate hdrained hlimit => ⟨fun ht hdue => ?_, fun ht hsettled hidle hforced _ hp => ?_⟩,
    fun s u ht hforced hfalls hexec => ?_⟩
  · exact exec_abandoned_of_due (State.abandonDue_iff.mpr ⟨hdue, hstate, s.drained_eq_false_iff.mpr hleft, hlimit⟩)
  · refine exec_abandoned_of_not_due ?_
    rw [← State.drained_eq_false_iff] at h
    rw [← Bool.not_eq_true, State.abandonDue_iff]
    rintro ⟨hdue, hstate, hleft, hlimit⟩
    rcases h with h | h | h | h
    · exact absurd (hdue.symm.trans h) nofun
    · exact h hstate
    · exact h hleft
    · omega
  · rw [exec_slotStart_countDrain ht hdue (State.no_end_of_draining hstate hdrained hlimit),
      State.countDrain_of_draining hstate]
  · have hends : s.CycleEnds := ⟨State.forcedFalls_eq_false (.inl hforced), .inr hp⟩
    have hlater : s.endSlot .checkAfterExpiry = s.cycleReactions .checkAfterExpiry := by
      rw [State.endSlot_of_idle hsettled hidle, State.advance_of_normal hends.unforced hp]
    have hdraining : (s.cycleReactions .checkAfterExpiry).commit.state = .draining := hstate
    have hend := State.no_end_of_draining hdraining
      (s.drained_cycleReactions.trans hdrained) hlimit
    refine ⟨_, (hends.taken ht (hends.endSlot_of_no_end (hlater ▸ hend))).1, ?_⟩
    rw [hlater, State.countDrain_of_draining hdraining]
    rfl
  · have hends : s.CycleEnds := ⟨hforced, hfalls⟩
    obtain rfl : s.endSlot .checkAfterExpiry = u := by
      rw [exec_slotEnd_of_running ht] at hexec
      cases hexec
      rfl
    obtain ⟨hdue, -⟩ := hends.endSlot
    dsimp only
    rw [← State.drained_eq_false_iff]
    refine ⟨hdue, fun hstate => ?_, fun hstate hdrained => ?_, fun hstate hleft hlimit => ?_, fun hstate hleft hlimit => ?_,
      fun hstate => ?_⟩
    · exact hends.taken ht (hends.endSlot_of_end (.inl (State.swapDue_of_waiting hdue hstate)))
    · have hswap := State.swapDue_iff.mpr ⟨hdue, .inr ⟨hstate, eq_true_of_ne_false hdrained⟩⟩
      exact ⟨hends.taken ht (hends.endSlot_of_end (.inl hswap)), hswap⟩
    · have habandon := State.abandonDue_iff.mpr ⟨hdue, hstate, hleft, hlimit⟩
      exact ⟨hends.taken ht (hends.endSlot_of_end (.inr habandon)), habandon⟩
    · refine hends.taken ht ?_
      rw [hends.endSlot_of_no_end (State.no_end_of_draining hstate hleft hlimit), State.countDrain_of_draining hstate]
    · refine hends.taken ht ?_
      rw [hends.endSlot_of_no_end (State.no_end_of_none hstate), State.countDrain_of_none hstate]

end Sys2Proof.Proofs
end

section
/-! SUPPORT. The boundary that a truncation forms, with the positions that it drops (09 R147, R148; 06 R102), and the statement about
truncations (O33). -/

namespace Sys2Proof.Machine

/-! ### The positions that a boundary drops (R102) -/

/-- A cycle drops a REFRESH where a later position of the cycle holds one. -/
theorem dropsRefresh_iff (r : Row) (l : CycleLength) (p : Nat) : dropsRefresh r l.slots p = true ↔
    ∃ q, p < q ∧ q < l.slots ∧ r.codeAt q = .refresh := by
  simp only [dropsRefresh, List.any_eq_true, Bool.and_eq_true, decide_eq_true_eq, mem_allPositions_iff, and_assoc]
  refine exists_congr fun q => and_iff_right_of_imp fun ⟨_, hq, _⟩ => ?_
  have := l.slots_le_eight
  omega

section
variable {s : State} {check : DrainCheckOrder}

theorem State.debtAfterDrop_iff (b : Bank) (debt : Bool) : s.debtAfterDrop b debt = true ↔
    debt = true ∨ (rowUsed s.commit.active.geometry.split b = true ∧ s.commit.active.geometry.kind = .dynamic
      ∧ ∃ q, s.scheduler.position < q ∧ q < s.slots ∧ (s.activeRow b).codeAt q = .refresh) := by
  rw [State.debtAfterDrop, Bool.or_eq_true, Bool.and_eq_true, Bool.and_eq_true, decide_eq_true_eq, State.slots,
    dropsRefresh_iff, and_assoc]

/-- At the end of the last slot no position is dropped, and no debt arises. -/
theorem State.debtAfterDrop_of_last (hp : s.slots ≤ s.scheduler.position + 1) (b : Bank) (debt : Bool) :
    s.debtAfterDrop b debt = debt := by
  rw [Bool.eq_iff_iff, State.debtAfterDrop_iff, or_iff_left_iff_imp]
  rintro ⟨-, -, q, hlater, hbelow, -⟩
  omega

theorem State.setDebts_of_last (hp : s.slots ≤ s.scheduler.position + 1) : s.setDebts = s := by
  simp only [State.setDebts, State.debtAfterDrop_of_last hp]
  rfl

/-! ### The truncated boundary (R147, R148) -/

/-- A truncation that falls drops the positions after the slot that ends, of which the last slot has none (R147). -/
theorem State.advance_of_truncation (hf : s.forcedFalls = false) (ht : s.truncationFalls = true) :
    s.advance check = s.setDebts.cycleReactions check := by
  by_cases hp : s.scheduler.position + 1 < s.slots
  · have kind : s.slotEndKind = .truncated := by simp [State.slotEndKind, hf, ht, hp]
    rw [State.advance, kind]
  · rw [Nat.not_lt] at hp
    rw [State.advance_of_normal hf hp, State.setDebts_of_last hp]

/-- The cycle that a truncation ends is not judged (R148). -/
theorem SyncUnit.atBoundary_of_truncation {u : SyncUnit} (h : u.truncationPending = true) :
    u.atBoundary = { u with truncationPending := false, pulseMark := false } := if_pos h

theorem State.truncationFalls_iff : s.truncationFalls = true ↔ s.sync.truncationPending = true ∧ s.heldOpen = false := by
  simp [State.truncationFalls]

theorem exec_truncation_of_not_falls
    (h : s.scheduler.timer ≠ .running ∨ s.truncationFalls = false ∨ s.forcedFalls = true) :
    exec (.truncation check) s = .next s := by
  rw [exec, execTruncation]
  rcases h with h | h | h
  · rw [State.inSlot_of_not_running h, Bool.false_and, Bool.false_and, if_neg Bool.false_ne_true]
  · rw [h, Bool.and_false, Bool.false_and, if_neg Bool.false_ne_true]
  · rw [h, Bool.not_true, Bool.and_false, if_neg Bool.false_ne_true]

/-- With a forced boundary due no truncation falls: it is taken up, or an atomic holds both open (R16, R147). -/
theorem State.no_truncation_of_forcedDue (h : s.scheduler.forcedDue = true) :
    s.truncationFalls = false ∨ s.forcedFalls = true := by
  cases hopen : s.heldOpen with
  | false => exact .inr (by simp [State.forcedFalls, h, hopen])
  | true => exact .inl (State.truncationFalls_eq_false (.inr hopen))

end

end Sys2Proof.Machine

namespace Sys2Proof.Proofs

open Sys2Proof.Machine

/-- Settles O33: the boundary that a truncation forms, the reasons for it not to fall, and the debts by the positions it drops. -/
theorem truncationAndRefreshDebt : Obligations.TruncationAndRefreshDebt := by
  refine ⟨⟨fun s check ht hs hb hforced htrunc hopen hcheck => ?_, fun s check h => exec_truncation_of_not_falls ?_⟩,
    fun s b debt => State.debtAfterDrop_iff b debt⟩
  · have hunforced : s.forcedFalls = false := State.forcedFalls_eq_false (.inl hforced)
    have hfalls : s.truncationFalls = true := State.truncationFalls_iff.mpr ⟨htrunc, hopen⟩
    have hsync : s.setDebts.sync.atBoundary = { s.sync with truncationPending := false, pulseMark := false } :=
      SyncUnit.atBoundary_of_truncation htrunc
    rw [exec_truncation_of_falls ht hfalls hunforced, State.endSlot_of_idle hs hb,
      State.advance_of_truncation hunforced hfalls, State.cycleReactions_eq (s := s.setDebts) hcheck, hsync]
    simp only [QueueEntry.ageAt_eq]
    rfl
  · rcases h with h | h | h | h
    · exact .inl h
    · exact .inr (.inl (State.truncationFalls_eq_false (.inl h)))
    · exact .inr (.inl (State.truncationFalls_eq_false (.inr h)))
    · exact .inr (State.no_truncation_of_forcedDue h)

end Sys2Proof.Proofs
end

section
/-! SUPPORT. The loss of lock, what a SYNC pulse takes first, and the pulse by the cases of R144 to R146; the captures of STROBE and
CAPTURE-NOW. The statements about pulses (O39) and captures (O40). -/

namespace Sys2Proof.Machine

section
variable {s : State}

/-! ### The loss of lock (R149) -/

theorem State.loseLock_of_due (h : s.sync.lostDue = true) : s.loseLock =
    ({ s with sync := { s.sync with state := .lost, missCount := 2, lostDue := false } } : State).report
      ⟨.syncLost, none, none, none, none, none, s.scheduler.cycleCount, 0⟩ := if_pos h

/-! ### What a pulse takes first (log entry 5) -/

theorem State.beforePulse_of_starting (ht : s.scheduler.timer = .starting) : s.beforePulse = (s.commitReaction []).loseLock := by
  rw [State.beforePulse, if_pos ht]

theorem State.beforePulse_of_not_starting (ht : s.scheduler.timer ≠ .starting) : s.beforePulse = s.loseLock := by
  rw [State.beforePulse, if_neg ht]

theorem State.beforePulse_of_nothing_owed (hl : s.sync.lostDue = false)
    (hd : s.scheduler.timer = .starting → s.commit.reactionDue = false) : s.beforePulse = s := by
  by_cases ht : s.scheduler.timer = .starting
  · rw [State.beforePulse_of_starting ht, State.commitReaction_of_not_due s [] (hd ht), State.loseLock_of_not_due s hl]
  · rw [State.beforePulse_of_not_starting ht, State.loseLock_of_not_due s hl]

/-- The loss of lock may be taken before the commit controller's reaction or after it. -/
theorem State.loseLock_commitReaction (turns : List PortId) :
    (s.loseLock.commitReaction turns).loseLock = (s.commitReaction turns).loseLock := by
  unfold State.commitReaction
  rw [State.swapDue_loseLock, State.abandonDue_loseLock, s.loseLock_frame.commit]
  split
  · rw [State.swap_loseLock]
  · split
    · rw [State.abandon_loseLock, State.loseLock_loseLock]
    · split
      · rw [State.countDrain_loseLock, State.loseLock_loseLock]
      · rw [State.loseLock_loseLock]

theorem State.beforePulse_loseLock (s : State) : s.loseLock.beforePulse = s.beforePulse := by
  have htimer : s.loseLock.scheduler.timer = s.scheduler.timer := congrArg Scheduler.timer s.loseLock_frame.scheduler
  by_cases ht : s.scheduler.timer = .starting
  · rw [State.beforePulse_of_starting (htimer.trans ht), State.beforePulse_of_starting ht, State.loseLock_commitReaction]
  · rw [State.beforePulse_of_not_starting (htimer ▸ ht), State.beforePulse_of_not_starting ht, State.loseLock_loseLock]

theorem State.beforePulse_commitReaction (ht : s.scheduler.timer = .starting) :
    (s.commitReaction []).beforePulse = s.beforePulse := by
  rw [State.beforePulse_of_starting ((s.commitReaction_reaction []).timer.trans ht), State.beforePulse_of_starting ht,
    State.commitReaction_of_not_due _ [] (s.commitReaction_reactionDue [])]

theorem exec_syncPulse_loseLock (s : State) : exec .syncPulse s = exec .syncPulse s.loseLock := by
  rw [exec, exec, execSyncPulse, execSyncPulse, State.beforePulse_loseLock]

/-- A pulse of the new cycle is the same before and after the commit controller's reaction. -/
theorem exec_syncPulse_commitReaction (ht : s.scheduler.timer = .starting) :
    exec .syncPulse s = exec .syncPulse (s.commitReaction []) := by
  rw [exec, exec, execSyncPulse, execSyncPulse, State.beforePulse_commitReaction ht]

/-! ### A pulse with nothing owed (R144 to R146) -/

theorem State.pulseIgnored_iff : s.pulseIgnored = true ↔ s.scheduler.timer = .stopped ∨ s.sync.state = .free
    ∨ s.sync.truncationPending = true ∨ s.sync.pulseMark = true ∨ s.scheduler.forcedDue = true := by
  simp only [State.pulseIgnored, State.inReset, Bool.or_eq_true, decide_eq_true_eq, or_assoc]

theorem State.judgePulse_of_ignored (h : s.pulseIgnored = true) : s.judgePulse = s := if_pos h

theorem State.judgePulse_of_last (h : ¬ s.pulseIgnored = true) (hp : s.slots ≤ s.scheduler.position + 1) :
    s.judgePulse = s.onTimePulse := by
  rw [State.judgePulse, if_neg h, State.pulseOnTime, if_pos (decide_eq_true hp)]

theorem State.judgePulse_of_earlier (h : ¬ s.pulseIgnored = true) (hp : s.scheduler.position + 1 < s.slots) :
    s.judgePulse = s.earlyPulse := by
  rw [State.judgePulse, if_neg h, State.pulseOnTime, decide_eq_false (Nat.not_le.mpr hp), if_neg Bool.false_ne_true]

/-- An early pulse outside LOCKED is no slip (R146). -/
theorem State.earlyPulse_of_not_locked (h : s.sync.state ≠ .locked) : s.earlyPulse = { s with
    sync := { s.sync with state := .locked, missCount := 0, truncationPending := true, pulseMark := true } } := by
  rw [State.earlyPulse, State.reportSlip, if_neg h, SyncUnit.slipAfter, if_neg h]
  rfl

/-- An early pulse in LOCKED is a slip, counted and reported (R146). -/
theorem State.earlyPulse_of_locked (h : s.sync.state = .locked) : s.earlyPulse = { s with
    sync := { s.sync with
      state := .locked, slipCount := min 255 (s.sync.slipCount + 1), missCount := 0, truncationPending := true
      pulseMark := true }
    link := s.link.report
      ⟨.syncSlip, none, none, none, none, none, s.scheduler.cycleCount, s.scheduler.position⟩ } := by
  rw [State.earlyPulse, State.reportSlip, if_pos h, SyncUnit.slipAfter, if_pos h]
  rfl

/-! ### Captures (R151, R180) -/

theorem State.capture_of_room (source : CaptureSource) (h : s.sync.captures.length < 4) : s.capture source = { s with
    sync := { s.sync with
      captures := s.sync.captures ++ [⟨s.scheduler.cycleCount, s.scheduler.position, s.sync.state, source⟩] } } := by
  rw [State.capture_eq, SyncUnit.capture_of_room _ h]

theorem State.capture_of_full (source : CaptureSource) (h : 4 ≤ s.sync.captures.length) : s.capture source = { s with
    sync := { s.sync with captureOverflow := true } } := by
  rw [State.capture_eq, SyncUnit.capture_of_full _ h]

theorem exec_strobeEdge_of_taken (ht : s.scheduler.timer ≠ .stopped) (hon : s.link.strobeCapture = true) :
    exec .strobeEdge s = .next (s.capture .strobe) := by
  rw [exec, execStrobeEdge, State.inReset_of_not_stopped ht, hon]
  rfl

theorem exec_strobeEdge_of_not_taken (h : s.scheduler.timer = .stopped ∨ s.link.strobeCapture = false) :
    exec .strobeEdge s = .next s := by
  rw [exec, execStrobeEdge]
  rcases h with h | h
  · rw [State.inReset_of_stopped h, Bool.not_true, Bool.false_and, if_neg Bool.false_ne_true]
  · rw [h, Bool.and_false, if_neg Bool.false_ne_true]

/-- A right CAPTURE-NOW frame makes its capture and is answered OK (R180). -/
theorem exec_captureNow_of_receives {check : Byte} (h : s.Receives [0x04] check) :
    exec (.captureNow check) s = .next ((s.capture .command).answer .ok []) := by
  obtain ⟨hreceiver, hcheck⟩ := h
  rw [exec, execCaptureNow, State.takeFrame_of_right s hreceiver hcheck]
  rfl

end

end Sys2Proof.Machine

namespace Sys2Proof.Proofs

open Sys2Proof.Machine

/-- Settles O39: the loss of lock; the pulse by the cases of R144 to R146; and what is owed, which the pulse takes first. -/
theorem syncPulseAndLossOfLock : Obligations.SyncPulseAndLossOfLock := by
  refine ⟨fun s => ⟨fun hdue => ?_, fun hdue => ?_⟩, fun s hlost hdue => ?_, fun s u hexec => ?_, fun s u ht hswap hexec => ?_,
    fun s u ht habandon hexec => ?_, fun s ht hdue hstate hleft hlimit => ?_, fun s ht hstate => ?_⟩
  · rw [exec, execSyncLost, State.loseLock_of_due hdue]
  · rw [exec, execSyncLost, State.loseLock_of_not_due s hdue]
  · dsimp only
    rw [exec, execSyncPulse, State.beforePulse_of_nothing_owed hlost hdue, ← State.pulseIgnored_iff]
    refine ⟨fun h => ?_, fun h hp => ?_, fun h hp hstate => ?_, fun h hp hstate => ?_⟩
    · rw [State.judgePulse_of_ignored h]
    · rw [State.judgePulse_of_last h hp]
      rfl
    · rw [State.judgePulse_of_earlier h hp, State.earlyPulse_of_not_locked hstate]
    · rw [State.judgePulse_of_earlier h hp, State.earlyPulse_of_locked hstate]
  · cases hexec
    exact exec_syncPulse_loseLock s
  · rw [exec_swapped_of_due hswap] at hexec
    cases hexec
    rw [exec_syncPulse_commitReaction ht, State.commitReaction_of_swapDue s [] hswap]
  · rw [exec_abandoned_of_due habandon] at hexec
    cases hexec
    rw [exec_syncPulse_commitReaction ht, State.commitReaction_of_abandonDue s [] habandon]
  · rw [exec_syncPulse_commitReaction ht, State.commitReaction_of_no_end hdue (State.no_end_of_draining hstate hleft hlimit) [],
      State.countDrain_of_draining hstate]
  · rw [exec_syncPulse_commitReaction ht, State.commitReaction_of_none s [] hstate]
    rfl

/-- Settles O40: a capture by the room in the FIFO, and the two that make one. -/
theorem capturesAreMade : Obligations.CapturesAreMade := by
  refine ⟨fun s => ⟨fun ht hon hroom => ?_, fun ht hon hfull => ?_, exec_strobeEdge_of_not_taken⟩,
    fun s check hreceives => ⟨fun hroom => ?_, fun hfull => ?_⟩⟩
  · rw [exec_strobeEdge_of_taken ht hon, State.capture_of_room _ hroom]
  · rw [exec_strobeEdge_of_taken ht hon, State.capture_of_full _ hfull]
  · rw [exec_captureNow_of_receives hreceives, State.capture_of_room _ hroom]
    rfl
  · rw [exec_captureNow_of_receives hreceives, State.capture_of_full _ hfull]
    rfl

end Sys2Proof.Proofs
end

section
/-! SUPPORT. The oldest record of the fault queue and of the capture FIFO, and the bytes of a record as numbers (09 R152; 11 R180 to R183;
12 R189, Table 12-8). The statement about records (O52). -/

namespace Sys2Proof.Machine

/-! ### READ_FAULT and READ_CAPTURE (R152, R183) -/

section
variable {s : State} {check : Byte}

theorem State.popFault_of_empty (h : s.link.faults = []) : s.popFault = refusal s .empty := by
  rw [State.popFault, h]

theorem State.popFault_of_cons {r : FaultRecord} {rest : List FaultRecord} (h : s.link.faults = r :: rest) :
    s.popFault = ⟨s.setLink { s.link with faults := rest }, .ok, faultImage r⟩ := by
  rw [State.popFault, h]

theorem State.popCapture_of_empty (h : s.sync.captures = []) : s.popCapture = refusal s .empty := by
  rw [State.popCapture, h]

theorem State.popCapture_of_cons {r : CaptureRecord} {rest : List CaptureRecord} (h : s.sync.captures = r :: rest) :
    s.popCapture = ⟨s.setSync { s.sync with captures := rest }, .ok, captureImage r⟩ := by
  rw [State.popCapture, h]

theorem exec_readFault_of_receives (h : s.Receives [0x02] check) :
    exec (.readFault check) s = .next (s.popFault.state.answer s.popFault.status s.popFault.results) := by
  obtain ⟨hreceiver, hcheck⟩ := h
  rw [exec, execReadFault, State.takeFrame_of_right s hreceiver hcheck]

theorem exec_readCapture_of_receives (h : s.Receives [0x03] check) :
    exec (.readCapture check) s = .next (s.popCapture.state.answer s.popCapture.status s.popCapture.results) := by
  obtain ⟨hreceiver, hcheck⟩ := h
  rw [exec, execReadCapture, State.takeFrame_of_right s hreceiver hcheck]

end

/-! ### Numbers as bytes (R189) -/

theorem toNat_byteOf (n : Nat) : (byteOf n).toNat = n % 256 := BitVec.toNat_ofNat n 8

theorem toNat_byteOf_of_lt {n : Nat} (h : n < 256) : (byteOf n).toNat = n := by
  rw [toNat_byteOf, Nat.mod_eq_of_lt h]

/-- The bytes of a number of 16 bits give the number back. -/
theorem toNat_bytes16 {n : Nat} (h : n < 0x10000) : 256 * (byteOf (n / 256)).toNat + (byteOf n).toNat = n := by
  simp only [toNat_byteOf]
  omega

/-- The bytes of a number of 32 bits give the number back. -/
theorem toNat_bytes32 {n : Nat} (h : n < 0x100000000) : 0x1000000 * (byteOf (n / 0x1000000)).toNat
    + 0x10000 * (byteOf (n / 0x10000)).toNat + 256 * (byteOf (n / 256)).toNat + (byteOf n).toNat = n := by
  simp only [toNat_byteOf]
  omega

/-! ### The fields of a record (Table 12-8) -/

/-- A field that may be absent keeps its bound: an absent one is driven 0. -/
theorem getD_map_lt {α : Type} {f : α → Nat} {bound : Nat} (hpos : 0 < bound) (h : ∀ a, f a < bound) (o : Option α) :
    (o.map f).getD 0 < bound := by
  cases o with
  | none => exact hpos
  | some a => exact h a

theorem bitOf_isSome {α : Type} [DecidableEq (Option α)] (o : Option α) (place : Nat) :
    bitOf o.isSome place = if o = none then 0 else 2 ^ place := by
  cases o <;> simp [bitOf]

theorem rowNumber_lt (b : Bank) : rowNumber b < 4 := by
  cases b <;> decide

section
variable (r : FaultRecord)

theorem FaultRecord.toNat_presence :
    (byteOf (bitOf r.port.isSome 0 + bitOf r.bank.isSome 1 + bitOf r.region.isSome 2)).toNat =
      (if r.port = none then 0 else 1) + (if r.bank = none then 0 else 2) + (if r.region = none then 0 else 4) := by
  rw [bitOf_isSome, bitOf_isSome, bitOf_isSome]
  refine toNat_byteOf_of_lt ?_
  split_ifs <;> decide

theorem FaultRecord.toNat_portAndTag : (byteOf (16 * (r.port.map Fin.val).getD 0 + (r.tag.map BitVec.toNat).getD 0)).toNat =
    16 * (r.port.map Fin.val).getD 0 + (r.tag.map BitVec.toNat).getD 0 := by
  have hport := getD_map_lt (by decide) (fun n : PortId => n.isLt) r.port
  have htag := getD_map_lt (by decide) (fun t : Tag => t.isLt) r.tag
  exact toNat_byteOf_of_lt (by omega)

theorem FaultRecord.toNat_bankAndRegion :
    (byteOf (16 * (r.bank.map rowNumber).getD 0 + (r.region.map Fin.val).getD 0)).toNat =
      16 * (r.bank.map rowNumber).getD 0 + (r.region.map Fin.val).getD 0 := by
  have hbank := getD_map_lt (by decide) rowNumber_lt r.bank
  have hregion := getD_map_lt (by decide) (fun i : Fin 16 => i.isLt) r.region
  exact toNat_byteOf_of_lt (by omega)

theorem FaultRecord.address_lt : (r.address.map BitVec.toNat).getD 0 < 0x100000000 :=
  getD_map_lt (by decide) (fun a : Address => a.isLt) r.address

end

end Sys2Proof.Machine

namespace Sys2Proof.Proofs

open Sys2Proof.Machine

/-- Settles O52: each command by whether a record is left, and each byte of a record by its field. -/
theorem recordsArePopped : Obligations.RecordsArePopped := by
  refine ⟨fun s check => ⟨fun hreceives => ⟨fun hnone => ?_, fun r rest hfaults => ⟨rfl, ?_⟩⟩,
    fun hreceives => ⟨fun hnone => ?_, fun r rest hcaptures => ⟨rfl, ?_⟩⟩⟩, fun r => ⟨?_, ?_, ?_, ?_, ?_, ?_⟩,
    fun r => ⟨?_, ?_, ?_⟩⟩
  · rw [exec_readFault_of_receives hreceives, State.popFault_of_empty hnone]
    rfl
  · rw [exec_readFault_of_receives hreceives, State.popFault_of_cons hfaults]
    rfl
  · rw [exec_readCapture_of_receives hreceives, State.popCapture_of_empty hnone]
    rfl
  · rw [exec_readCapture_of_receives hreceives, State.popCapture_of_cons hcaptures]
    rfl
  · obtain ⟨kind⟩ := r
    cases kind <;> rfl
  · exact r.toNat_presence
  · refine r.toNat_portAndTag.trans (congrArg₂ (16 * · + ·) ?_ ?_)
    · cases r.port <;> rfl
    · cases r.tag <;> rfl
  · refine (toNat_bytes32 r.address_lt).trans ?_
    cases r.address <;> rfl
  · refine r.toNat_bankAndRegion.trans (congrArg₂ (16 * · + ·) ?_ ?_)
    · cases r.bank <;> rfl
    · cases r.region <;> rfl
  · exact ⟨toNat_bytes16 r.cycleCount.isLt, toNat_byteOf r.position⟩
  · exact toNat_bytes16 r.cycleCount.isLt
  · exact toNat_byteOf r.position
  · obtain ⟨_, _, sync, source⟩ := r
    cases sync <;> cases source <;> rfl

end Sys2Proof.Proofs
end

section
/-! SUPPORT. The acceptance event (10 R159 to R166): the gate, what a request that is taken leaves, and the MALFORMED and RANGE checks; the end of a
request and the fault queue (4.4, R182). The statements about them (O8, O9, O11, O30). -/

namespace Sys2Proof.Machine

/-! ### The gate and the request that is taken (R159, R161, R165, R166) -/

section
variable {s : State} {n : PortId} {m : RequestMessage}

theorem State.gateOpen_iff : s.gateOpen n = true ↔ s.scheduler.timer ≠ .stopped ∧ (s.ports.get n).resetLine = false
    ∧ s.commit.state ≠ .draining ∧ (s.ports.get n).completions.length < 8 := by
  simp only [State.gateOpen, State.inReset, Bool.and_eq_true, Bool.not_eq_true', decide_eq_true_eq, decide_eq_false_iff_not,
    ne_eq, and_assoc]
  exact Iff.rfl

theorem exec_acceptance_of_open (h : s.gateOpen n = true) : exec (.acceptance n m) s = .next (s.takeRequest n m) :=
  congrArg Host.Outcome.next (if_pos h)

theorem exec_acceptance_of_closed (h : s.gateOpen n = false) : exec (.acceptance n m) s = .next s :=
  congrArg Host.Outcome.next (if_neg (Bool.eq_false_iff.mp h))

theorem State.takeRequest_of_refuse {status : ResponseStatus} {kind : FaultKind} {bank : Option Bank} {region : Option (Fin 16)}
    (h : acceptanceDecision s.commit.active n m = .refuse status kind bank region) :
    s.takeRequest n m = s.refuseRequest n m status kind bank region := by
  rw [State.takeRequest, h]

theorem State.takeRequest_of_accept {b : Bank} {mirror : Bool}
    (h : acceptanceDecision s.commit.active n m = .accept b mirror) :
    s.takeRequest n m = s.acceptRequest n m b mirror := by
  rw [State.takeRequest, h]

variable (s n m) in
/-- Refused or accepted, a request takes one completion entry, with the next reference, at the young end of its port's list (R161, R165). -/
theorem State.takeRequest_completions : ∃ c : CompletionEntry, c.ref = s.nextRef
    ∧ ((s.takeRequest n m).ports.get n).completions = (s.ports.get n).completions ++ [c]
    ∧ ∀ k ≠ n, (s.takeRequest n m).ports.get k = s.ports.get k := by
  cases h : acceptanceDecision s.commit.active n m with
  | refuse status kind bank region =>
    rw [State.takeRequest_of_refuse h]
    exact ⟨⟨s.nextRef, m.tag, m.kind, .done (bareResult status)⟩, rfl,
      congrArg PortFrontEnd.completions (PerPort.get_set_self _ _ _), fun k hk => PerPort.get_set_of_ne _ hk _⟩
  | accept b mirror =>
    rw [State.takeRequest_of_accept h]
    exact ⟨⟨s.nextRef, m.tag, m.kind, .pending⟩, rfl,
      congrArg PortFrontEnd.completions (PerPort.get_set_self _ _ _), fun k hk => PerPort.get_set_of_ne _ hk _⟩

end

/-! ### The MALFORMED and RANGE checks (R162, R163) -/

section
variable {g : Geometry} {p : Plan} {n : PortId} {m : RequestMessage}

/-- The four cases of R162. -/
theorem isMalformed_iff : isMalformed g m = true ↔ m.length.toNat = 0 ∨ 8 < m.length.toNat ∨ m.address.toNat % 8 ≠ 0
    ∨ ((m.kind = .swap ∨ m.kind = .fetchAdd) ∧ m.length.toNat ≠ 1)
    ∨ m.address.toNat / windowBytes g ≠ lastByte m.address m.length.toNat / windowBytes g := by
  simp only [isMalformed, crossesWindow, Bool.or_eq_true, Bool.and_eq_true, decide_eq_true_eq, bne_iff_ne, isAtomicKind_iff,
    or_assoc]

theorem acceptanceDecision_of_malformed (h : isMalformed p.geometry m = true) :
    acceptanceDecision p n m = .refuse .malformed .malformed (bankOf p.geometry m.address) none := if_pos h

theorem acceptanceDecision_of_no_bank (hformed : isMalformed p.geometry m = false) (hbank : bankOf p.geometry m.address = none) :
    acceptanceDecision p n m = .refuse .range .range none none := by
  simp only [acceptanceDecision, hformed, hbank, Bool.false_eq_true, if_false]

/-- What passed MALFORMED and RANGE is refused DENIED or NO-LINK, or accepted for the bank of its first byte (R161). -/
theorem acceptanceDecision_cases_of_bank {b : Bank} (hformed : isMalformed p.geometry m = false)
    (hbank : bankOf p.geometry m.address = some b) :
    (∃ region, acceptanceDecision p n m = .refuse .denied .denied (some b) region)
    ∨ acceptanceDecision p n m = .refuse .noLink .noLink (some b) none
    ∨ ∃ mirror, acceptanceDecision p n m = .accept b mirror := by
  cases hcheck : regionCheck p n m.kind m.address m.length.toNat with
  | denied region => exact .inl ⟨region, acceptanceDecision_of_denied hformed hbank hcheck⟩
  | allowed mirror =>
    rw [acceptanceDecision_of_allowed hformed hbank hcheck]
    split
    · exact .inr (.inl rfl)
    · exact .inr (.inr ⟨mirror, rfl⟩)

/-- A refusal of a request that passed MALFORMED is another one (R161). -/
theorem not_malformed_of_refuse {status : ResponseStatus} {kind : FaultKind} {bank : Option Bank} {region : Option (Fin 16)}
    (hformed : isMalformed p.geometry m = false) (h : acceptanceDecision p n m = .refuse status kind bank region) :
    status ≠ .malformed ∧ kind ≠ .malformed := by
  cases hbank : bankOf p.geometry m.address with
  | none =>
    rw [acceptanceDecision_of_no_bank hformed hbank] at h
    cases h
    exact ⟨nofun, nofun⟩
  | some b =>
    rcases acceptanceDecision_cases_of_bank (n := n) hformed hbank with ⟨_, hd⟩ | hd | ⟨_, hd⟩ <;> rw [hd] at h <;> cases h <;>
      exact ⟨nofun, nofun⟩

/-- A request whose first byte has a bank is not refused RANGE (R163). -/
theorem acceptanceDecision_ne_range_of_bank {b : Bank} (hformed : isMalformed p.geometry m = false)
    (hbank : bankOf p.geometry m.address = some b) (kind : FaultKind) (bank : Option Bank) (region : Option (Fin 16)) :
    acceptanceDecision p n m ≠ .refuse .range kind bank region := by
  rcases acceptanceDecision_cases_of_bank (n := n) hformed hbank with ⟨_, hd⟩ | hd | ⟨_, hd⟩ <;> rw [hd] <;> exact nofun

/-- An accepted request is for the bank of its first byte (R163). -/
theorem bankOf_of_accept {bank : Bank} {mirror : Bool} (hformed : isMalformed p.geometry m = false)
    (h : acceptanceDecision p n m = .accept bank mirror) : bankOf p.geometry m.address = some bank := by
  cases hbank : bankOf p.geometry m.address with
  | none =>
    rw [acceptanceDecision_of_no_bank hformed hbank] at h
    cases h
  | some b =>
    rcases acceptanceDecision_cases_of_bank (n := n) hformed hbank with ⟨_, hd⟩ | hd | ⟨_, hd⟩ <;> rw [hd] at h <;> cases h
    rfl

theorem window_lastByte_of_formed (h : isMalformed g m = false) :
    lastByte m.address m.length.toNat / windowBytes g = m.address.toNat / windowBytes g := by
  by_contra hcross
  exact absurd (isMalformed_iff.mpr (.inr (.inr (.inr (.inr (Ne.symm hcross)))))) (Bool.eq_false_iff.mp h)

/-- A span within one window ends in range when it begins in range (R163). -/
theorem lastByte_lt_of_formed (h : isMalformed g m = false) (hrange : m.address.toNat < g.size.bytes) :
    lastByte m.address m.length.toNat < g.size.bytes := by
  rw [← windowCount_mul_windowBytes, ← Nat.div_lt_iff_lt_mul (windowBytes_pos g)] at hrange ⊢
  rwa [window_lastByte_of_formed h]

theorem bankOf_lastByte_of_formed (h : isMalformed g m = false) (hrange : m.address.toNat < g.size.bytes) :
    bankOf g (BitVec.ofNat 32 (lastByte m.address m.length.toNat)) = bankOf g m.address := by
  have hlast := (lastByte_lt_of_formed h hrange).trans (size_bytes_lt g)
  rw [bankOf, bankOf, BitVec.toNat_ofNat, Nat.mod_eq_of_lt hlast, window_lastByte_of_formed h]

end

end Sys2Proof.Machine

namespace Sys2Proof.Proofs

open Sys2Proof.Machine

/-- Settles O8: the gate by its conditions, and the one completion entry of a request that is taken. -/
theorem acceptanceGate : Obligations.AcceptanceGate := by
  refine fun s n m => ⟨State.gateOpen_iff, exec_acceptance_of_closed, fun hopen => ⟨_, exec_acceptance_of_open hopen, ?_⟩⟩
  obtain ⟨c, -, hlist, -⟩ := s.takeRequest_completions n m
  rw [hlist, List.length_append, List.length_singleton]

/-- Settles O9: the state that a refusal and an acceptance leave, the work of an entry by the kind of its request. -/
theorem refusedAndAcceptedRequests : Obligations.RefusedAndAcceptedRequests := by
  refine ⟨fun s n m status kind bank region hopen hrefuse => ?_, fun s n m bank mirror hopen haccept => ?_⟩
  · rw [exec_acceptance_of_open hopen, State.takeRequest_of_refuse hrefuse]
    rfl
  · rw [exec_acceptance_of_open hopen, State.takeRequest_of_accept haccept]
    obtain ⟨kind⟩ := m
    cases kind <;> rfl

/-- Settles O11: MALFORMED by its four cases; a span that stays in one window ends in the bank of its first byte. -/
theorem malformedAndRangeRequests : Obligations.MalformedAndRangeRequests := by
  refine ⟨fun p n m => ⟨fun hmalformed => acceptanceDecision_of_malformed (isMalformed_iff.mpr hmalformed),
      fun hformed status kind bank region => not_malformed_of_refuse (Bool.eq_false_iff.mpr (mt isMalformed_iff.mp hformed))⟩,
    fun p n m hformed => ⟨fun hout => acceptanceDecision_of_no_bank hformed (bankOf_of_out_of_range p.geometry hout),
      fun hrange => ?_⟩⟩
  obtain ⟨b, hbank⟩ := exists_bankOf_of_in_range p.geometry hrange
  exact ⟨acceptanceDecision_ne_range_of_bank hformed hbank, lastByte_lt_of_formed hformed hrange, b, hbank,
    (bankOf_lastByte_of_formed hformed hrange).trans hbank,
    fun bank mirror haccept => Option.some.inj ((bankOf_of_accept hformed haccept).symm.trans hbank)⟩

/-- Settles O30: the two lists of a port by the reference, and the fault queue by its room. -/
theorem finishingAndReporting : Obligations.FinishingAndReporting := by
  refine ⟨State.finishEntry_eq_of_ref, fun s r => ⟨fun hroom => ?_, fun hfull => ?_⟩⟩
  · rw [State.report_eq, LinkController.report_of_room r hroom]
  · rw [State.report_eq, LinkController.report_of_full r hfull]

end Sys2Proof.Proofs
end

section
/-! SUPPORT. The response channel and the port reset (10 R155, R170, R171, 12 R188): what is offered, its message, and what the line of a port
clears and opens. The statements about them (O7, O15). -/

namespace Sys2Proof.Machine

/-! ### The offered response (R155, R188) -/

section
variable {s : State} {n : PortId}

theorem State.offered_of_done (ht : s.scheduler.timer ≠ .stopped) (hline : (s.ports.get n).resetLine = false)
    {c : CompletionEntry} {rest : List CompletionEntry} {r : CompletionResult}
    (hlist : (s.ports.get n).completions = c :: rest) (hdone : c.state = .done r) :
    s.offered n = some (responseMessage c.tag r) := by
  obtain ⟨ref, tag, kind, state⟩ := c
  cases hdone
  simp [State.offered, State.inReset, ht, hline, hlist]

theorem State.offered_of_reset (h : s.scheduler.timer = .stopped ∨ (s.ports.get n).resetLine = true) : s.offered n = none := by
  refine if_pos ?_
  rw [Bool.or_eq_true]
  exact h.imp_left decide_eq_true

theorem State.offered_of_empty (h : (s.ports.get n).completions = []) : s.offered n = none := by
  simp [State.offered, h]

theorem State.offered_of_pending {c : CompletionEntry} {rest : List CompletionEntry}
    (hlist : (s.ports.get n).completions = c :: rest) (hpending : c.state = .pending) : s.offered n = none := by
  obtain ⟨ref, tag, kind, state⟩ := c
  cases hpending
  simp [State.offered, hlist]

theorem exec_responseTransfer_of_offered {r : ResponseMessage} (h : s.offered n = some r) :
    exec (.responseTransfer n) s = .next (s.setCompletions n (s.ports.get n).completions.tail) := by
  simp only [exec, execResponseTransfer, h]

theorem exec_responseTransfer_of_none (h : s.offered n = none) : exec (.responseTransfer n) s = .next s := by
  simp only [exec, execResponseTransfer, h]

end

theorem length_responseMessage_data (tag : Tag) (r : CompletionResult) : (responseMessage tag r).data.length = 8 := by
  simp [responseMessage]

/-- Beat position `k` carries beat `k` of the result, or 0 past its last (R188). -/
theorem getElem?_responseMessage_data (tag : Tag) (r : CompletionResult) {k : Nat} (hk : k < 8) :
    (responseMessage tag r).data[k]? = some (r.data.getD k 0) := by
  rw [responseMessage, List.getElem?_take_of_lt hk]
  by_cases hbeat : k < r.data.length
  · rw [List.getElem?_append_left hbeat, List.getElem?_eq_getElem hbeat, List.getD_eq_getElem _ _ hbeat]
  · have hpast := Nat.le_of_not_lt hbeat
    rw [List.getElem?_append_right hpast, List.getElem?_replicate_of_lt (by omega), List.getD_eq_default _ _ hpast]

/-! ### The line of a port (R70, R92, R170, R171) -/

theorem exec_portReset_eq (n : PortId) (s : State) : exec (.portReset n) s = .next { s with
    queues := s.queues.set n []
    ports := s.ports.set n ⟨true, []⟩
    mirrors := s.mirrors.map fun l => l.dropRecoveries (some n) } := by
  simp only [exec, execPortReset, State.clearPort, State.setResetLine, State.setCompletions, State.setQueue, PerPort.set_set,
    PerPort.get_set_self]

/-- A port that is released with an empty list accepts, but for a drain (R171). -/
theorem State.gateOpen_setResetLine_iff {n : PortId} {s : State} (ht : s.scheduler.timer ≠ .stopped)
    (hempty : (s.ports.get n).completions = []) : (s.setResetLine n false).gateOpen n = true ↔ s.commit.state ≠ .draining := by
  rw [State.gateOpen_iff, State.setResetLine_completions, hempty]
  simp [ht]

end Sys2Proof.Machine

namespace Sys2Proof.Proofs

open Sys2Proof.Machine

/-- Settles O7: the update of each line, the RECOVERY-READs that are removed by the work of an entry. -/
theorem portResetAndItsRelease : Obligations.PortResetAndItsRelease := by
  refine ⟨fun n s => ?_, fun n s => ⟨_, rfl, rfl, State.gateOpen_setResetLine_iff⟩⟩
  intro removed
  have hremoved (e : BacklogEntry) : e.recoveryOf (some n) = removed e := by
    obtain ⟨work⟩ := e
    cases work <;> rfl
  rw [exec_portReset_eq]
  simp only [Backlog.dropRecoveries, hremoved]

/-- Settles O15: what is offered by the oldest entry and the resets, and the message beat by beat. -/
theorem responseTransferTakesTheOldest : Obligations.ResponseTransferTakesTheOldest := by
  refine ⟨fun s n => ⟨fun c rest r ht hline hlist hdone => ?_, fun hnone => ?_⟩, fun tag r => ⟨rfl, rfl, ?_,
    length_responseMessage_data tag r, fun k hk => getElem?_responseMessage_data tag r hk⟩⟩
  · have hoffered := State.offered_of_done ht hline hlist hdone
    refine ⟨hoffered, ?_⟩
    rw [exec_responseTransfer_of_offered hoffered, hlist]
    rfl
  · have hoffered : s.offered n = none := by
      rcases hnone with ht | hline | hempty | ⟨c, rest, hlist, hpending⟩
      · exact State.offered_of_reset (.inl ht)
      · exact State.offered_of_reset (.inr hline)
      · exact State.offered_of_empty hempty
      · exact State.offered_of_pending hlist hpending
    exact ⟨hoffered, exec_responseTransfer_of_none hoffered⟩
  · obtain ⟨status⟩ := r
    cases status <;> rfl

end Sys2Proof.Proofs
end

section
/-! SUPPORT. The completion list of a port under every command (10 R155, R157, R158): requests end in their places, a taken request joins the young end,
a transfer takes the old end, a reset empties it; and the statement about it (O16). -/

namespace Sys2Proof.Machine

/-! ### Entries that end in their places (R158) -/

/-- A completion entry afterwards: with its reference, and unchanged if it was DONE. -/
structure CompletionEntry.Becomes (c c' : CompletionEntry) : Prop where
  ref  : c'.ref = c.ref
  done : c.state ≠ .pending → c' = c

theorem CompletionEntry.Becomes.refl (c : CompletionEntry) : c.Becomes c := ⟨rfl, fun _ => rfl⟩

theorem CompletionEntry.Becomes.trans {c c' c'' : CompletionEntry} (h : c.Becomes c') (k : c'.Becomes c'') : c.Becomes c'' := by
  refine ⟨k.ref.trans h.ref, fun hdone => ?_⟩
  have hkept := h.done hdone
  exact (k.done (hkept ▸ hdone)).trans hkept

theorem CompletionEntry.becomes_finish (c : CompletionEntry) (ref : Nat) (r : CompletionResult) : c.Becomes (c.finish ref r) :=
  ⟨c.finish_ref ref r, fun hdone => if_neg fun h => hdone h.2⟩

/-- A completion list whose entries have stayed in their places, each DONE one as it was. -/
def EntriesStay (l l' : List CompletionEntry) : Prop :=
  ∃ f : CompletionEntry → CompletionEntry, (∀ c : CompletionEntry, c.Becomes (f c)) ∧ l' = l.map f

section
variable {l l' l'' : List CompletionEntry}

theorem EntriesStay.refl (l : List CompletionEntry) : EntriesStay l l := ⟨id, .refl, (List.map_id l).symm⟩

theorem EntriesStay.trans (h : EntriesStay l l') (k : EntriesStay l' l'') : EntriesStay l l'' := by
  obtain ⟨f, hf, rfl⟩ := h
  obtain ⟨g, hg, rfl⟩ := k
  exact ⟨g ∘ f, fun c => (hf c).trans (hg (f c)), List.map_map⟩

theorem EntriesStay.finish (l : List CompletionEntry) (ref : Nat) (r : CompletionResult) :
    EntriesStay l (l.map fun c => c.finish ref r) := ⟨_, fun c => c.becomes_finish ref r, rfl⟩

theorem EntriesStay.refs (h : EntriesStay l l') : l'.map (·.ref) = l.map (·.ref) := by
  obtain ⟨f, hf, rfl⟩ := h
  rw [List.map_map]
  exact List.map_congr_left fun c _ => (hf c).ref

end

/-! ### Operations that take no entry out of a list -/

/-- In every port's completion list the entries have stayed. -/
def CompletionsStay (s t : State) : Prop := ∀ n : PortId, EntriesStay (s.ports.get n).completions (t.ports.get n).completions

theorem CompletionsStay.of_ports {s t : State} (h : t.ports = s.ports) : CompletionsStay s t := fun n => by
  rw [h]
  exact .refl _

theorem CompletionsStay.refl (s : State) : CompletionsStay s s := .of_ports rfl

theorem CompletionsStay.trans {s t u : State} (h : CompletionsStay s t) (k : CompletionsStay t u) : CompletionsStay s u :=
  fun n => (h n).trans (k n)

theorem CompletionsStay.of_ite {s t : State} {p : Prop} [Decidable p] (h : CompletionsStay s t) :
    CompletionsStay s (if p then t else s) := by
  split
  · exact h
  · exact .refl s

section
variable (s : State)

theorem State.finishEntry_stay (n : PortId) (ref : Nat) (r : CompletionResult) : CompletionsStay s (s.finishEntry n ref r) := by
  intro k
  rw [State.finishEntry_eq, PerPort.get_set]
  split
  · rename_i hk
    rw [hk]
    exact .finish _ ref r
  · exact .refl _

theorem State.failEntry_stay (n : PortId) (e : QueueEntry) (status : ResponseStatus) (kind : FaultKind) (position : Nat) :
    CompletionsStay s (s.failEntry n e status kind position) :=
  (s.reportEntry kind n e position).finishEntry_stay n e.ref (bareResult status)

theorem State.finishAccess_stay (a : PortAccess) (r : CompletionResult) : CompletionsStay s (s.finishAccess a r) := by
  unfold State.finishAccess
  split
  · exact .refl s
  · exact s.finishEntry_stay _ _ _

theorem State.expireOldest_stay (n : PortId) : CompletionsStay s (s.expireOldest n) := by
  unfold State.expireOldest
  split
  · exact s.failEntry_stay _ _ _ _ _
  · exact .refl s

theorem State.expirePort_stay (n : PortId) : CompletionsStay s (s.expirePort n) :=
  foldl_of_step .refl .trans (fun t _ => t.expireOldest_stay n) _ s

theorem State.expirePorts_stay (turns : List PortId) : CompletionsStay s (s.expirePorts turns) :=
  (foldl_of_step .refl .trans State.expireOldest_stay turns s).trans (foldl_of_step .refl .trans State.expirePort_stay turns _)

theorem State.completeNoLink_stay (n : PortId) : CompletionsStay s (s.completeNoLink n) := by
  unfold State.completeNoLink
  split
  · exact s.failEntry_stay _ _ _ _ _
  · exact .refl s

theorem State.completeNoLinks_stay (n : PortId) : CompletionsStay s (s.completeNoLinks n) :=
  foldl_of_step .refl .trans (fun t _ => t.completeNoLink_stay n) _ s

theorem State.noLinkCompletions_stay (turns : List PortId) : CompletionsStay s (s.noLinkCompletions turns) :=
  (foldl_of_step .refl .trans State.completeNoLink_stay turns s).trans
    (foldl_of_step .refl .trans State.completeNoLinks_stay allPorts _)

/-! ### What a boundary leaves due, and slot starts (R20, R66, R129, R149) -/

theorem State.loseLock_stay : CompletionsStay s s.loseLock := .of_ite (.of_ports rfl)

theorem State.settle_stay : CompletionsStay s s.settle :=
  s.loseLock_stay.trans (foldl_of_step .refl .trans State.expirePort_stay allPorts _)

theorem State.swap_stay (turns : List PortId) : CompletionsStay s (s.swap turns) := by
  unfold State.swap
  dsimp only
  split
  · exact s.loseLock_stay.trans (.of_ports rfl)
  · exact (s.loseLock_stay.trans (.of_ports rfl)).trans (State.noLinkCompletions_stay _ turns)

theorem State.commitReaction_stay (turns : List PortId) : CompletionsStay s (s.commitReaction turns) := by
  unfold State.commitReaction
  split
  · exact s.swap_stay turns
  · split
    · exact .of_ports rfl
    · exact .of_ite (.of_ports rfl)

theorem State.startSlot_stay : CompletionsStay s s.startSlot := by
  have hready : CompletionsStay s (s.loseLock.commitReaction []) := s.loseLock_stay.trans (State.commitReaction_stay _ [])
  have hdecided : CompletionsStay (s.loseLock.commitReaction []) s.startSlot :=
    .of_ports (State.decideBanks_frame (s.loseLock.commitReaction []).openFreedPlaces allBanks).ports
  exact hready.trans hdecided

theorem State.beforePulse_stay : CompletionsStay s s.beforePulse :=
  CompletionsStay.trans (.of_ite (s.commitReaction_stay [])) (State.loseLock_stay _)

theorem State.judgePulse_ports : s.judgePulse.ports = s.ports := by
  unfold State.judgePulse State.earlyPulse
  split
  · rfl
  · split
    · rfl
    · rcases s.reportSlip_cases with heq | ⟨r, heq⟩ <;> rw [heq] <;> rfl

/-! ### Results at a slot end (R12, R61) -/

theorem State.faultedRead_stay (b : Bank) (a : PortAccess) (e : QueueEntry) : CompletionsStay s (s.faultedRead b a e) := by
  unfold State.faultedRead
  split
  · exact s.failEntry_stay _ _ _ _ _
  · split
    · exact .of_ports rfl
    · exact s.failEntry_stay _ _ _ _ _

theorem State.endRead_stay (b : Bank) (a : PortAccess) : CompletionsStay s (s.endRead b a) := by
  have hclear : CompletionsStay s (s.clearOperation b) := .of_ports rfl
  unfold State.endRead
  dsimp only
  split
  · exact hclear
  · split
    · exact hclear.trans (State.faultedRead_stay _ _ _ _)
    · exact hclear.trans (State.finishEntry_stay _ _ _ _)

theorem State.primaryWrite_ports (b : Bank) (a : PortAccess) (beats : List WriteBeat) :
    (s.primaryWrite b a beats).ports = s.ports := by
  rw [State.primaryWrite_eq]

theorem State.endWrite_stay (b : Bank) (a : PortAccess) (beats : List WriteBeat) : CompletionsStay s (s.endWrite b a beats) := by
  have hwritten : CompletionsStay s ((s.clearOperation b).primaryWrite b a beats) := .of_ports (State.primaryWrite_ports _ b a beats)
  exact hwritten.trans (State.finishAccess_stay _ _ _)

theorem State.endAtomicRead_ports (b : Bank) (p : AtomicPair) : (s.endAtomicRead b p).ports = s.ports := by
  have hreport (t : State) (r : AtomicResult) : (t.reportFailedAtomic p.access r).ports = t.ports := by
    unfold State.reportFailedAtomic
    split <;> rfl
  exact hreport _ _

theorem State.failedPairEnd_stay (b : Bank) (a : PortAccess) : CompletionsStay s (s.failedPairEnd b a) := by
  have hrelease : CompletionsStay s (if a.mirror then s.release (partnerBank b) else s) := .of_ite (.of_ports rfl)
  exact hrelease.trans (State.finishAccess_stay _ _ _)

theorem State.endPair_stay (b : Bank) (p : AtomicPair) : CompletionsStay s (s.endPair b p) := by
  have hfree : CompletionsStay s (s.setSequencer b { s.banks.get b with operation := none, pair := none }) := .of_ports rfl
  unfold State.endPair
  dsimp only
  split
  · exact (hfree.trans (.of_ports (State.primaryWrite_ports _ _ _ _))).trans (State.finishAccess_stay _ _ _)
  · exact hfree.trans (State.failedPairEnd_stay _ _ _)
  · exact hfree.trans (State.failedPairEnd_stay _ _ _)

theorem State.endRecovery_stay (b : Bank) (offset length : Nat) (n : PortId) (ref : Nat) :
    CompletionsStay s (s.endRecovery b offset length n ref) := by
  have hremoved : CompletionsStay s ((s.clearOperation b).removePerformed b) := .of_ports rfl
  have hreported (r : FaultRecord) : CompletionsStay s (((s.clearOperation b).removePerformed b).report r) := .of_ports rfl
  unfold State.endRecovery
  dsimp only
  split
  · exact hremoved
  · split
    · exact hremoved.trans (State.failEntry_stay _ _ _ _ _ _)
    · exact (hreported _).trans (State.finishEntry_stay _ _ _ _)

variable {s} in
theorem State.HandsBack.completionsStay {b : Bank} {t : State} (h : s.HandsBack b t) : CompletionsStay s t := by
  cases h with
  | nothing => exact .refl s
  | pairEnd => exact s.endPair_stay _ _
  | read => exact s.endRead_stay _ _
  | write => exact s.endWrite_stay _ _ _
  | atomicRead => exact .of_ports (s.endAtomicRead_ports _ _)
  | recovery => exact s.endRecovery_stay _ _ _ _ _
  | secondary | refresh | stray => exact .of_ports rfl

theorem State.endBank_stay (b : Bank) : CompletionsStay s (s.endBank b) := (s.endBank_handsBack b).completionsStay

theorem State.markReaction_ports (check : DrainCheckOrder) : (s.markReaction check).ports = s.ports := by
  cases check with
  | checkAfterExpiry => rfl
  | checkFirst =>
    rw [State.markReaction_checkFirst]
    split <;> rfl

/-- A slot end keeps the entries of every list, but a forced boundary empties them (R16, R186). -/
theorem State.advance_stay_or_empty (check : DrainCheckOrder) : CompletionsStay s (s.advance check)
    ∨ ∀ n, ((s.advance check).ports.get n).completions = [] := by
  unfold State.advance
  split
  · exact .inl (.of_ports rfl)
  · exact .inl (.of_ports (State.markReaction_ports _ check))
  · exact .inl (.of_ports (State.markReaction_ports _ check))
  · exact .inr fun n => congrArg PortFrontEnd.completions (State.clearTraffic_port n)

theorem State.endSlot_stay_or_empty (check : DrainCheckOrder) : CompletionsStay s (s.endSlot check)
    ∨ ∀ n, ((s.endSlot check).ports.get n).completions = [] := by
  have hended : CompletionsStay s s.settle.endBanks :=
    s.settle_stay.trans (foldl_of_step .refl .trans State.endBank_stay allBanks _)
  exact (State.advance_stay_or_empty _ check).imp_left hended.trans

/-! ### Commands of the management link (R173 to R185) -/

theorem State.popFault_ports : s.popFault.state.ports = s.ports := by
  unfold State.popFault
  split <;> rfl

theorem State.popCapture_ports : s.popCapture.state.ports = s.ports := by
  unfold State.popCapture
  split <;> rfl

theorem State.editStaged_ports (edited : Option Plan) : (s.editStaged edited).state.ports = s.ports := by
  unfold State.editStaged
  split
  · rfl
  · split <;> rfl

theorem State.readPlan_ports (plan item : Byte) : (s.readPlan plan item).state.ports = s.ports := by
  unfold State.readPlan
  split <;> rfl

theorem State.tryCommit_ports : s.tryCommit.state.ports = s.ports := by
  unfold State.tryCommit
  split
  · rfl
  · split
    · rfl
    · split <;> rfl

theorem State.endCommit_ports (o : CommitOutcome) : (s.endCommit o).ports = s.ports := by
  unfold State.endCommit
  split <;> rfl

theorem State.cancel_ports : s.cancel.state.ports = s.ports := by
  unfold State.cancel
  split
  · rfl
  · exact s.endCommit_ports .cancelled

theorem State.writeMask_ports (mask : Byte) : (s.writeMask mask).state.ports = s.ports := by
  unfold State.writeMask
  split <;> rfl

theorem State.writeStrobe_ports (setting : Byte) : (s.writeStrobe setting).state.ports = s.ports := by
  unfold State.writeStrobe
  split <;> rfl

/-- TRAFFIC-RESET empties every list (R172, R185). -/
theorem State.trafficReset_completions (n : PortId) : (s.trafficReset.ports.get n).completions = [] := by
  have hcleared : s.trafficReset.ports = s.clearTraffic.ports := State.endCommit_ports _ .abortedByReset
  rw [hcleared, State.clearTraffic_port]

end

/-! ### What a command can do to a completion list -/

/-- What a command can leave of a list, with `next` the next reference: its entries in their places; without its oldest; with one more at the
young end; empty. -/
inductive ListStep (next : Nat) (l : List CompletionEntry) : List CompletionEntry → Prop
  | stays {l' : List CompletionEntry} (entries : EntriesStay l l') : ListStep next l l'
  | transferred : ListStep next l l.tail
  | taken {c : CompletionEntry} (ref : c.ref = next) : ListStep next l (l ++ [c])
  | emptied : ListStep next l []

/-- An outcome whose next state, if it has one, is such a step for the list of every port. -/
def StepsLists (s : State) : Host.Outcome State Fault Refusal → Prop
  | .next t => ∀ n : PortId, ListStep s.nextRef (s.ports.get n).completions (t.ports.get n).completions
  | .fault _ | .refused _ => True

section
variable {s t : State}

theorem StepsLists.of_stay (h : CompletionsStay s t) : StepsLists s (.next t) := fun n => .stays (h n)

theorem StepsLists.of_ports (h : t.ports = s.ports) : StepsLists s (.next t) := .of_stay (.of_ports h)

theorem StepsLists.of_empty (h : ∀ n, (t.ports.get n).completions = []) : StepsLists s (.next t) := fun n => by
  rw [h n]
  exact .emptied

theorem StepsLists.of_stay_or_empty (h : CompletionsStay s t ∨ ∀ n, (t.ports.get n).completions = []) : StepsLists s (.next t) :=
  h.elim .of_stay .of_empty

theorem StepsLists.of_ite {p : Prop} [Decidable p] (h : StepsLists s (.next t)) : StepsLists s (.next (if p then t else s)) := by
  split
  · exact h
  · exact .of_ports rfl

/-- A step for the list of one port, beside lists that stay as they are. -/
theorem StepsLists.of_port {n : PortId} (h : ListStep s.nextRef (s.ports.get n).completions (t.ports.get n).completions)
    (hother : ∀ k ≠ n, t.ports.get k = s.ports.get k) : StepsLists s (.next t) := by
  intro k
  by_cases hk : k = n
  · rw [hk]
    exact h
  · rw [hother k hk]
    exact .stays (.refl _)

theorem StepsLists.takeFrame (frame : List Byte) (check : Byte) {effect : State → Effect}
    (h : StepsLists s (.next (effect s).state)) : StepsLists s (.next (s.takeFrame frame check effect)) := by
  unfold State.takeFrame
  split
  · split
    · exact h
    · exact .of_ports rfl
  · exact .of_ports rfl

theorem StepsLists.takeFrame_of_ports (frame : List Byte) (check : Byte) {effect : State → Effect}
    (h : (effect s).state.ports = s.ports) : StepsLists s (.next (s.takeFrame frame check effect)) :=
  .takeFrame frame check (.of_ports h)

variable (s)

theorem State.takeRequest_stepsLists (n : PortId) (m : RequestMessage) : StepsLists s (.next (s.takeRequest n m)) := by
  obtain ⟨c, href, hlist, hother⟩ := s.takeRequest_completions n m
  refine .of_port (n := n) ?_ hother
  rw [hlist]
  exact .taken href

theorem execResponseTransfer_stepsLists (n : PortId) : StepsLists s (execResponseTransfer n s) := by
  unfold execResponseTransfer
  split
  · refine .of_port (n := n) ?_ fun k hk => PerPort.get_set_of_ne _ hk _
    rw [State.setCompletions_port, if_pos rfl]
    exact .transferred
  · exact .of_ports rfl

theorem State.portReset_stepsLists (n : PortId) : StepsLists s (.next ((s.clearPort n).setResetLine n true)) := by
  intro k
  rw [State.setResetLine_completions, State.clearPort_port]
  split
  · exact .emptied
  · exact .stays (.refl _)

theorem State.setResetLine_stay (n : PortId) (asserted : Bool) : CompletionsStay s (s.setResetLine n asserted) := fun k => by
  rw [State.setResetLine_completions]
  exact .refl _

theorem execReplySpent_stepsLists : StepsLists s (execReplySpent s) := by
  unfold execReplySpent
  split <;> exact .of_ports rfl

theorem execFrameOpen_stepsLists : StepsLists s (execFrameOpen s) := by
  unfold execFrameOpen
  split <;> exact .of_ports rfl

theorem execMemoryDeviceChange_stepsLists (address : Address) (value : Byte) :
    StepsLists s (execMemoryDeviceChange address value s) := by
  unfold execMemoryDeviceChange
  split
  · exact .of_ports rfl
  · trivial

theorem exec_stepsLists (i : Instr) : StepsLists s (exec i s) := by
  cases i with
  | powerOnReset => exact .of_empty fun n => congrArg PortFrontEnd.completions (s.powerOn_port n)
  | portReset n => exact s.portReset_stepsLists n
  | portResetRelease n => exact .of_stay (s.setResetLine_stay n false)
  | acceptance n m => exact .of_ite (s.takeRequest_stepsLists n m)
  | responseTransfer n => exact execResponseTransfer_stepsLists s n
  | memoryDeviceChange address value => exact execMemoryDeviceChange_stepsLists s address value
  | slotStart => exact .of_ite (.of_stay s.startSlot_stay)
  | slotEnd check | truncation check => exact .of_ite (.of_stay_or_empty (s.endSlot_stay_or_empty check))
  | forcedBoundary => exact .of_ite (.of_stay_or_empty (s.endSlot_stay_or_empty .checkAfterExpiry))
  | readComplete b | writeComplete b | atomicReadComplete b | atomicPairEnd b | secondaryWriteComplete b
  | recoveryReadComplete b =>
    simp only [exec, execReadComplete, execWriteComplete, execAtomicReadComplete, execAtomicPairEnd,
      execSecondaryWriteComplete, execRecoveryReadComplete]
    split
    · exact .of_stay (s.settle_stay.trans (State.endBank_stay _ b))
    · exact .of_ports rfl
  | timeout turns => exact .of_stay (s.expirePorts_stay turns)
  | swapped turns => exact .of_ite (.of_stay (s.swap_stay turns))
  | resetNRelease | abandoned | strobeEdge | badCommand => exact .of_ite (.of_ports rfl)
  | syncLost => exact .of_stay s.loseLock_stay
  | syncPulse => exact .of_stay (s.beforePulse_stay.trans (.of_ports (State.judgePulse_ports _)))
  | frameOpen => exact execFrameOpen_stepsLists s
  | selectRelease => exact .of_ports rfl
  | replySpent => exact execReplySpent_stepsLists s
  | readStatus check | captureNow check => exact .takeFrame_of_ports _ check rfl
  | readFault check => exact .takeFrame_of_ports _ check s.popFault_ports
  | readCapture check => exact .takeFrame_of_ports _ check s.popCapture_ports
  | readPlan plan item check => exact .takeFrame_of_ports _ check (s.readPlan_ports plan item)
  | commit check => exact .takeFrame_of_ports _ check s.tryCommit_ports
  | cancelCommit check => exact .takeFrame_of_ports _ check s.cancel_ports
  | setAlertMask mask check => exact .takeFrame_of_ports _ check (s.writeMask_ports mask)
  | setStrobe setting check => exact .takeFrame_of_ports _ check (s.writeStrobe_ports setting)
  | trafficReset check => exact .takeFrame _ check (.of_empty (State.trafficReset_completions _))
  | writeGrid | writeRegion | writeGeometry | writePortLimit | restage => exact .takeFrame_of_ports _ _ (s.editStaged_ports _)

variable {s} in
theorem listStep_of_exec {c : Instr} (h : exec c s = .next t) (n : PortId) :
    ListStep s.nextRef (s.ports.get n).completions (t.ports.get n).completions := by
  have hsteps := exec_stepsLists s c
  rw [h] at hsteps
  exact hsteps n

end

/-! ### What every step keeps (R157, R158) -/

section
variable {next : Nat} {l l' : List CompletionEntry}

theorem ListStep.refs (h : ListStep next l l') : l'.map (·.ref) = l.map (·.ref) ∨ l'.map (·.ref) = (l.map (·.ref)).tail
    ∨ l'.map (·.ref) = l.map (·.ref) ++ [next] ∨ l'.map (·.ref) = [] := by
  cases h with
  | stays entries => exact .inl entries.refs
  | transferred => exact .inr (.inl List.map_tail)
  | taken ref => exact .inr (.inr (.inl (by rw [List.map_append, List.map_singleton, ref])))
  | emptied => exact .inr (.inr (.inr rfl))

/-- With fresh references, the entry that bears the reference of a DONE one is that one. -/
theorem ListStep.eq_of_done (h : ListStep next l l') (hnodup : (l.map (·.ref)).Nodup) (hfresh : ∀ c ∈ l, c.ref < next)
    {e e' : CompletionEntry} (he : e ∈ l) (hdone : e.state ≠ .pending) (he' : e' ∈ l') (href : e'.ref = e.ref) : e' = e := by
  have unique {c : CompletionEntry} (hc : c ∈ l) (hce : c.ref = e.ref) : c = e := List.inj_on_of_nodup_map hnodup hc he hce
  cases h with
  | stays entries =>
    obtain ⟨f, hf, rfl⟩ := entries
    obtain ⟨c, hc, rfl⟩ := List.mem_map.mp he'
    obtain rfl := unique hc ((hf c).ref.symm.trans href)
    exact (hf c).done hdone
  | transferred => exact unique (List.mem_of_mem_tail he') href
  | taken ref =>
    rcases List.mem_append.mp he' with hold | hnew
    · exact unique hold href
    · rw [List.mem_singleton.mp hnew, ref] at href
      exact absurd href (hfresh e he).ne'
  | emptied => cases he'

end

end Sys2Proof.Machine

namespace Sys2Proof.Proofs

open Sys2Proof.Machine

/-- Settles O16: every command's step of a completion list, seen by the references and at a DONE entry. -/
theorem completionListsKeepTheirOrder : Obligations.CompletionListsKeepTheirOrder := by
  refine ⟨fun c s t n hexec => (listStep_of_exec hexec n).refs, fun c s t n hrefs hexec e he hdone e' he' href => ?_⟩
  obtain ⟨hnodup, hfresh⟩ := hrefs n
  exact (listStep_of_exec hexec n).eq_of_done hnodup hfresh he hdone he' href

end Sys2Proof.Proofs
end

section
/-! SUPPORT. The frame receiver, its data output and the check byte (11 R173, R174, R187; Table 11-1): the frame that each management
command is, the receiver's own events, and the check register bit by bit. The statements about the receiver (O41) and the check byte
(O42). -/

namespace Sys2Proof.Machine

/-! ### The check register (R174) -/

/-- The register shifts, and takes the polynomial in where its top bit and the new bit differ. -/
theorem crcBit_eq (register : Byte) (bit : Bool) : crcBit register bit =
    if register.getLsbD 7 = bit then register <<< 1 else (register <<< 1) ^^^ 0x07#8 := by
  have htop : register.msb = register.getLsbD 7 := register.msb_eq_getLsbD_last
  rw [crcBit, htop]
  by_cases h : register.getLsbD 7 = bit
  · rw [if_pos h, h, bne_self_eq_false, if_neg Bool.false_ne_true]
  · rw [if_neg h, if_pos (bne_iff_ne.mpr h)]
    rfl

theorem crcByte_eq_foldl (register v : Byte) : crcByte register v =
    [v.getLsbD 7, v.getLsbD 6, v.getLsbD 5, v.getLsbD 4, v.getLsbD 3, v.getLsbD 2, v.getLsbD 1, v.getLsbD 0].foldl crcBit register :=
  rfl

/-- A register that is `v` shifted is only shifted on by the next bit of `v`, which is its top bit. -/
theorem crcBit_shiftLeft (v : Byte) {n : Nat} (hn : n < 8) : crcBit (v <<< n) (v.getLsbD (7 - n)) = v <<< (n + 1) := by
  have htop : (v <<< n).getLsbD 7 = v.getLsbD (7 - n) := by
    rw [BitVec.getLsbD_shiftLeft, decide_eq_true (by decide : 7 < 8), decide_eq_false (by omega : ¬ 7 < n)]
    rfl
  rw [crcBit_eq, if_pos htop, ← BitVec.shiftLeft_add]

theorem foldl_crcBit_self (v : Byte) {n : Nat} (hn : n ≤ 8) :
    (List.range n).foldl (fun r i => crcBit r (v.getLsbD (7 - i))) v = v <<< n := by
  induction n with
  | zero => exact (BitVec.shiftLeft_zero v).symm
  | succ n ih =>
    rw [List.range_succ, List.foldl_append, ih (by omega)]
    exact crcBit_shiftLeft v hn

/-- The register's own byte shifts all of it out. -/
theorem crcByte_self (v : Byte) : crcByte v v = 0 :=
  (foldl_crcBit_self v (le_refl 8)).trans (BitVec.shiftLeft_eq_zero (le_refl 8))

theorem checkByte_append (bytes more : List Byte) : checkByte (bytes ++ more) = more.foldl crcByte (checkByte bytes) :=
  List.foldl_append

theorem checkByte_append_self (bytes : List Byte) : checkByte (bytes ++ [checkByte bytes]) = 0 :=
  (checkByte_append bytes _).trans (crcByte_self _)

/-! ### The frame of a command (Table 12-5, R173, R174) -/

/-- A management command is the reception of its frame. -/
theorem exec_eq_takeFrame {c : Instr} {frame : List Byte} {check : Byte} (h : frameOf c = some (frame, check)) :
    ∃ effect : State → Effect, ∀ s : State, exec c s = .next (s.takeFrame frame check effect) := by
  cases c with
  | readStatus | readFault | readCapture | captureNow | writeGrid | writeRegion | writeGeometry | writePortLimit | restage
  | readPlan | commit | cancelCommit | setAlertMask | setStrobe | trafficReset =>
    cases h
    exact ⟨_, fun _ => rfl⟩
  | powerOnReset | resetNRelease | portReset | portResetRelease | acceptance | responseTransfer | slotStart | slotEnd
  | readComplete | writeComplete | atomicReadComplete | atomicPairEnd | secondaryWriteComplete | recoveryReadComplete | timeout
  | swapped | abandoned | truncation | forcedBoundary | syncLost | syncPulse | strobeEdge | selectRelease | badCommand
  | frameOpen | replySpent | memoryDeviceChange => cases h

section
variable {s : State}

/-! ### The receiver's own events (R173, R187) -/

theorem exec_frameOpen_of_selected (h : s.link.selectActive = true) : exec .frameOpen s = .next s := by
  rw [exec, execFrameOpen, if_pos h]

theorem exec_frameOpen_of_not_selected (h : s.link.selectActive = false) : exec .frameOpen s = .next { s with
    link := { s.link with selectActive := true, receiver := if s.inReset then s.link.receiver else .receiving } } := by
  rw [exec, execFrameOpen, if_neg (Bool.eq_false_iff.mp h)]
  rfl

theorem exec_replySpent_of_replying {reply : List Byte} (h : s.link.receiver = .replying reply) :
    exec .replySpent s = .next { s with link := { s.link with receiver := .spent } } := by
  simp only [exec, execReplySpent, h]
  rfl

theorem exec_replySpent_of_not_replying (h : ∀ reply, s.link.receiver ≠ .replying reply) : exec .replySpent s = .next s := by
  cases hr : s.link.receiver with
  | replying reply => exact absurd hr (h reply)
  | idle | receiving | spent => simp only [exec, execReplySpent, hr]

theorem exec_badCommand_of_unknown {code : Byte} (hr : s.link.receiver = .receiving) (hcode : code ∉ commandCodes) :
    exec (.badCommand code) s = .next (s.answer .badCommand []) := by
  have hunknown : commandCodes.contains code = false := by simpa using hcode
  rw [exec, execBadCommand, if_pos ⟨hr, hunknown⟩]

/-! ### The data output (Table 11-1) -/

theorem State.dataOutput_of_not_stopped (h : s.scheduler.timer ≠ .stopped) (k : Nat) :
    s.dataOutput k = s.link.receiver.outputByte k := by
  rw [State.dataOutput, State.inReset_of_not_stopped h, if_neg Bool.false_ne_true]

theorem State.dataOutput_of_idle (h : s.link.receiver = .idle) (k : Nat) : s.dataOutput k = none := by
  rw [State.dataOutput, h]
  exact ite_self none

theorem Receiver.outputByte_replying (reply : List Byte) (k : Nat) :
    (Receiver.replying reply).outputByte k = some (reply.getD k 0) := rfl

end

end Sys2Proof.Machine

namespace Sys2Proof.Proofs

open Sys2Proof.Machine

/-- Settles O41: the receiver by its events, and the data output by the receiver's state. -/
theorem frameReceiver : Obligations.FrameReceiver := by
  refine fun s => ⟨fun hselect ht => ?_, fun hselect ht => ?_, exec_frameOpen_of_selected, rfl,
    fun reply => exec_replySpent_of_replying, exec_replySpent_of_not_replying,
    fun code hcode hr => exec_badCommand_of_unknown hr hcode,
    fun k => ⟨?_, fun ht hr => ?_, fun reply ht hr => ⟨fun v hv => ?_, fun hk => ?_⟩⟩⟩
  · rw [exec_frameOpen_of_not_selected hselect, State.inReset_of_not_stopped ht, if_neg Bool.false_ne_true]
  · rw [exec_frameOpen_of_not_selected hselect, State.inReset_of_stopped ht, if_pos rfl]
  · rintro (ht | hr)
    · exact State.dataOutput_of_stopped ht k
    · exact State.dataOutput_of_idle hr k
  · rw [State.dataOutput_of_not_stopped ht]
    rcases hr with hr | hr <;> rw [hr] <;> rfl
  · rw [State.dataOutput_of_not_stopped ht, hr, Receiver.outputByte_replying, List.getD_eq_getElem?_getD, hv, Option.getD_some]
  · rw [State.dataOutput_of_not_stopped ht, hr, Receiver.outputByte_replying, List.getD_eq_default _ _ hk]

/-- Settles O42: every management command is a frame, and the register is a fold over bits. -/
theorem checkByte : Obligations.CheckByte := by
  refine ⟨fun c s frame check hframe => ?_, fun bytes more => ⟨checkByte_append_self bytes, checkByte_append bytes more⟩, ?_⟩
  · obtain ⟨effect, hexec⟩ := exec_eq_takeFrame hframe
    refine ⟨fun hr hwrong => ?_, fun hr => ?_⟩
    · rw [hexec, State.takeFrame_of_wrong s hr hwrong]
      rfl
    · rw [hexec, State.takeFrame_of_not_receiving s hr]
  · intro bitStep bits bytes
    have hstep : bitStep = crcBit := funext fun register => funext fun bit => (crcBit_eq register bit).symm
    rw [hstep, List.foldl_flatMap]
    rfl

end Sys2Proof.Proofs
end

section
/-! SUPPORT. The answers that change nothing but the receiver (11 R175): BUSY while a commit is pending, BAD-ARGUMENT where an argument byte
names nothing (12 Table 12-5, Table 12-6). The statement about them (O43). -/

namespace Sys2Proof.Machine

/-! ### Arguments that name nothing (R123, R179, R190) -/

theorem bankOfRow_eq_none {n : Nat} (h : 3 < n) : bankOfRow n = none := by
  obtain ⟨k, rfl⟩ := Nat.exists_eq_add_of_le' h
  rfl

theorem slotCodeOf_eq_none {n : Nat} (h : 7 < n) : slotCodeOf n = none := by
  obtain ⟨k, rfl⟩ := Nat.exists_eq_add_of_le' h
  rfl

theorem positionOf_eq_none {v : Byte} (h : 7 < v.toNat) : positionOf v = none := dif_neg (Nat.not_lt.mpr h)

theorem portOf_eq_none {v : Byte} (h : 3 < v.toNat) : portOf v = none := dif_neg (Nat.not_lt.mpr h)

theorem regionOf_eq_none {v : Byte} (h : 15 < v.toNat) : regionOf v = none := dif_neg (Nat.not_lt.mpr h)

theorem maskOf_eq_none {v : Byte} (h : 8 ≤ v.toNat) : maskOf v = none := if_neg (Nat.not_lt.mpr h)

theorem regionOfImage_eq_none {image : Vector Byte 6} (h : 4 ≤ image[4].toNat) : regionOfImage image = none :=
  if_neg (Nat.not_lt.mpr h)

theorem cycleLengthOf_eq_none {v : Byte} (h : v ≠ 4 ∧ v ≠ 8) : cycleLengthOf v = none := by
  obtain ⟨hfour, height⟩ := h
  unfold cycleLengthOf
  split
  · exact absurd (BitVec.eq_of_toNat_eq ‹_›) hfour
  · exact absurd (BitVec.eq_of_toNat_eq ‹_›) height
  · rfl

theorem generalOfImage_eq_none {image : Vector Byte 4} (h : (image[0] ≠ 4 ∧ image[0] ≠ 8) ∨ 32 ≤ image[1].toNat
    ∨ 256 * image[2].toNat + image[3].toNat = 0 ∨ 4095 < 256 * image[2].toNat + image[3].toNat) :
    generalOfImage image = none := by
  unfold generalOfImage
  split
  · rfl
  · rename_i length hlength
    rcases h with h | h
    · rw [cycleLengthOf_eq_none h] at hlength
      cases hlength
    · refine if_neg ?_
      simp only [toNat_word16, Bool.and_eq_true, decide_eq_true_eq]
      omega

section
variable {p : Plan}

theorem Plan.withCode_eq_none {row position code : Byte} (h : 3 < row.toNat ∨ 7 < position.toNat ∨ 7 < code.toNat) :
    p.withCode row position code = none := by
  unfold Plan.withCode
  split
  · rename_i hrow hposition hcode
    rcases h with h | h | h
    · cases (bankOfRow_eq_none h).symm.trans hrow
    · cases (positionOf_eq_none h).symm.trans hposition
    · cases (slotCodeOf_eq_none h).symm.trans hcode
  · rfl

theorem Plan.withRegion_eq_none {index : Byte} {image : Vector Byte 6} (h : 15 < index.toNat ∨ 4 ≤ image[4].toNat) :
    p.withRegion index image = none := by
  unfold Plan.withRegion
  split
  · rename_i hindex himage
    rcases h with h | h
    · cases (regionOf_eq_none h).symm.trans hindex
    · cases (regionOfImage_eq_none h).symm.trans himage
  · rfl

theorem Plan.withGeneral_eq_none {image : Vector Byte 4} (h : generalOfImage image = none) : p.withGeneral image = none := by
  rw [Plan.withGeneral, h, Option.map_none]

theorem Plan.withLimit_eq_none {port limit : Byte} (h : 3 < port.toNat) : p.withLimit port limit = none := by
  rw [Plan.withLimit, portOf_eq_none h, Option.map_none]

theorem planItem_eq_none {item : Byte} (h : (3 < item.toNat ∧ item.toNat < 16) ∨ 0x21 < item.toNat) : planItem p item = none := by
  rw [planItem, if_neg (by omega), dif_neg (by omega), if_neg (by omega), if_neg (by omega)]

end

theorem CommitController.planOf_eq_none {c : CommitController} {selector : Byte} (h : 1 < selector.toNat) :
    c.planOf selector = none := by
  unfold CommitController.planOf
  split
  · omega
  · omega
  · rfl

/-! ### Effects that are refusals (R175) -/

section
variable {s : State} {frame : List Byte} {check : Byte}

theorem State.editStaged_of_pending (h : s.commit.state ≠ .none) (edited : Option Plan) :
    s.editStaged edited = refusal s .busy := if_pos h

theorem State.editStaged_of_undefined (hnone : s.commit.state = .none) {edited : Option Plan} (h : edited = none) :
    s.editStaged edited = refusal s .badArgument := by
  subst h
  exact if_neg (not_not.mpr hnone)

theorem State.tryCommit_of_pending (h : s.commit.state ≠ .none) : s.tryCommit = refusal s .busy := if_pos h

theorem State.readPlan_of_undefined {plan item : Byte} (h : (s.commit.planOf plan).bind (fun p => planItem p item) = none) :
    s.readPlan plan item = refusal s .badArgument := by
  rw [State.readPlan, h]

theorem State.writeMask_of_undefined {mask : Byte} (h : 8 ≤ mask.toNat) : s.writeMask mask = refusal s .badArgument := by
  rw [State.writeMask, maskOf_eq_none h]

theorem State.writeStrobe_of_undefined {setting : Byte} (h : 1 < setting.toNat) :
    s.writeStrobe setting = refusal s .badArgument := by
  unfold State.writeStrobe
  split
  · omega
  · omega
  · rfl

/-- A right frame whose command is refused changes nothing but the receiver. -/
theorem State.takeFrame_of_refusal (h : s.Receives frame check) {effect : State → Effect} {status : LinkStatus}
    (heffect : effect s = refusal s status) : s.takeFrame frame check effect = { s with
      link := { s.link with receiver := .replying [status.code, checkByte [status.code]] } } := by
  obtain ⟨hreceiver, hcheck⟩ := h
  rw [State.takeFrame_of_right s hreceiver hcheck, heffect]
  rfl

/-- Every command that BUSY may refuse is refused while a commit is pending, before its arguments are looked at. -/
theorem exec_of_busyDuringCommit {c : Instr} (hframe : frameOf c = some (frame, check)) (hbusy : busyDuringCommit c = true)
    (hreceives : s.Receives frame check) (hpending : s.commit.state ≠ .none) : exec c s = .next { s with
      link := { s.link with receiver := .replying [0x01, checkByte [0x01]] } } := by
  cases c with
  | writeGrid | writeRegion | writeGeometry | writePortLimit | restage =>
    cases hframe
    exact congrArg Host.Outcome.next (State.takeFrame_of_refusal hreceives (status := .busy) (State.editStaged_of_pending hpending _))
  | commit =>
    cases hframe
    exact congrArg Host.Outcome.next (State.takeFrame_of_refusal hreceives (status := .busy) (State.tryCommit_of_pending hpending))
  | powerOnReset | resetNRelease | portReset | portResetRelease | acceptance | responseTransfer | slotStart | slotEnd
  | readComplete | writeComplete | atomicReadComplete | atomicPairEnd | secondaryWriteComplete | recoveryReadComplete | timeout
  | swapped | abandoned | truncation | forcedBoundary | syncLost | syncPulse | strobeEdge | selectRelease | badCommand
  | readStatus | readFault | readCapture | captureNow | readPlan | cancelCommit | setAlertMask | setStrobe | trafficReset
  | frameOpen | replySpent | memoryDeviceChange => cases hbusy

end

end Sys2Proof.Machine

namespace Sys2Proof.Proofs

open Sys2Proof.Machine

/-- Settles O43: BUSY by the commit state alone, BAD-ARGUMENT by the argument that names nothing. -/
theorem busyAndBadArguments : Obligations.BusyAndBadArguments := by
  refine ⟨fun c s frame check => exec_of_busyDuringCommit, fun s check => ⟨fun hnone => ⟨fun row position code h hreceives => ?_,
    fun index image h hreceives => ?_, fun image h hreceives => ?_, fun port limit h hreceives => ?_⟩,
    fun plan item h hreceives => ?_, fun mask h hreceives => ?_, fun setting h hreceives => ?_⟩⟩
  all_goals refine congrArg Host.Outcome.next (State.takeFrame_of_refusal hreceives (status := .badArgument) ?_)
  · exact State.editStaged_of_undefined hnone (Plan.withCode_eq_none h)
  · exact State.editStaged_of_undefined hnone (Plan.withRegion_eq_none h)
  · exact State.editStaged_of_undefined hnone (Plan.withGeneral_eq_none (generalOfImage_eq_none h))
  · exact State.editStaged_of_undefined hnone (Plan.withLimit_eq_none h)
  · refine State.readPlan_of_undefined ?_
    rcases h with h | h
    · rw [CommitController.planOf_eq_none h, Option.bind_none]
    · simp only [planItem_eq_none h, Option.bind_fun_none]
  · exact State.writeMask_of_undefined h
  · exact State.writeStrobe_of_undefined h

end Sys2Proof.Proofs
end

section
/-! SUPPORT. The items that READ-PLAN returns, the alert mask and the strobe setting, and the causes of ALERT (11 R177, R179, R184; 12
Table 12-3, Table 12-6). The statements about READ-PLAN (O46) and about settings and ALERT (O53). -/

namespace Sys2Proof.Machine

section
variable {s : State} {frame : List Byte} {check : Byte}

/-- A right frame whose command changes nothing and returns results. -/
theorem State.takeFrame_of_results (h : s.Receives frame check) {effect : State → Effect} {bytes : List Byte}
    (heffect : effect s = ⟨s, .ok, bytes⟩) : s.takeFrame frame check effect = { s with
      link := { s.link with receiver := .replying (0x00 :: bytes ++ [checkByte (0x00 :: bytes)]) } } := by
  obtain ⟨hreceiver, hcheck⟩ := h
  rw [State.takeFrame_of_right s hreceiver hcheck, heffect]
  rfl

/-! ### The items of a plan (Table 12-6) -/

theorem eq_zero_or_one_of_toNat_le {v : Byte} (h : v.toNat ≤ 1) : v = 0 ∨ v = 1 :=
  (Nat.le_one_iff_eq_zero_or_eq_one.mp h).imp BitVec.eq_of_toNat_eq BitVec.eq_of_toNat_eq

theorem CommitController.planOf_eq {c : CommitController} {selector : Byte} (h : selector.toNat ≤ 1) :
    c.planOf selector = some (if selector = 0 then c.active else c.staged) := by
  rcases eq_zero_or_one_of_toNat_le h with rfl | rfl <;> rfl

theorem planItem_of_row (p : Plan) {item : Byte} {b : Bank} (h : item.toNat = rowNumber b) :
    planItem p item = some (rowImage (p.grid.get b)) := by
  have hrow : item.toNat < 4 := h ▸ rowNumber_lt b
  rw [planItem, if_pos hrow, h, bankOfRow_rowNumber, Option.map_some]

theorem planItem_of_region (p : Plan) {item : Byte} {i : Fin 16} (h : item.toNat = 16 + i) :
    planItem p item = some (regionImage (p.region i)) := by
  have hrange : 16 ≤ item.toNat ∧ item.toNat < 32 := by omega
  have hindex : (⟨item.toNat - 16, by omega⟩ : Fin 16) = i := Fin.ext (show item.toNat - 16 = i.val by omega)
  rw [planItem, if_neg (by omega), dif_pos hrange, hindex]

theorem planItem_of_geometry (p : Plan) {item : Byte} (h : item.toNat = 0x20) :
    planItem p item = some (geometryImage p.general) := by
  rw [planItem, if_neg (by omega), dif_neg (by omega), if_pos h]

theorem planItem_of_limits (p : Plan) {item : Byte} (h : item.toNat = 0x21) :
    planItem p item = some (limitsImage p.waitLimits) := by
  rw [planItem, if_neg (by omega), dif_neg (by omega), if_neg (by omega), if_pos h]

/-- A right READ-PLAN frame returns the item and changes nothing but the receiver (R177). -/
theorem exec_readPlan_of_item {plan item : Byte} {bytes : List Byte} (hplan : plan.toNat ≤ 1)
    (h : s.Receives [0x18, plan, item] check)
    (hitem : planItem (if plan = 0 then s.commit.active else s.commit.staged) item = some bytes) :
    exec (.readPlan plan item check) s = .next { s with
      link := { s.link with receiver := .replying (0x00 :: bytes ++ [checkByte (0x00 :: bytes)]) } } := by
  refine congrArg Host.Outcome.next (State.takeFrame_of_results h ?_)
  rw [State.readPlan, CommitController.planOf_eq hplan, Option.bind_some, hitem]

/-! ### Grid rows as bytes (Table 12-3) -/

theorem SlotCode.value_lt (c : SlotCode) : c.value < 8 := by
  cases c with
  | port n => exact Nat.lt_trans n.isLt (by decide)
  | openSlot | mirror | refresh | idle => decide

/-- Two codes stand in one byte, the first in its high four bits. -/
theorem toNat_byteOf_codes (c d : SlotCode) : (byteOf (16 * c.value + d.value)).toNat = 16 * c.value + d.value := by
  have hc := c.value_lt
  have hd := d.value_lt
  exact toNat_byteOf_of_lt (by omega)

theorem toNat_rowImage (r : Row) : (rowImage r).map BitVec.toNat =
    [16 * (r.codeAt 0).value + (r.codeAt 1).value, 16 * (r.codeAt 2).value + (r.codeAt 3).value,
      16 * (r.codeAt 4).value + (r.codeAt 5).value, 16 * (r.codeAt 6).value + (r.codeAt 7).value] := by
  simp only [rowImage, List.map_cons, List.map_nil, toNat_byteOf_codes]

/-! ### Settings (R179) -/

theorem State.writeMask_of_lt {mask : Byte} (h : mask.toNat < 8) : s.writeMask mask = done (s.setLink { s.link with
    alertMask := ⟨mask.getLsbD 0, mask.getLsbD 1, mask.getLsbD 2⟩ }) := by
  rw [State.writeMask, maskOf, if_pos h]

theorem State.writeStrobe_of_lt {setting : Byte} (h : setting.toNat < 2) : s.writeStrobe setting = done (s.setLink { s.link with
    strobeCapture := decide (setting = 1) }) := by
  rcases eq_zero_or_one_of_toNat_le (Nat.le_of_lt_succ h) with rfl | rfl <;> rfl

/-! ### ALERT (R184, R187) -/

theorem State.alertCauses_iff : s.alertCauses = true ↔
    (s.link.faults ≠ [] ∧ s.link.alertMask.fault = true) ∨ (s.sync.captures ≠ [] ∧ s.link.alertMask.capture = true)
      ∨ (s.commit.record.unreported = true ∧ s.link.alertMask.commit = true) := by
  simp only [State.alertCauses, Bool.or_eq_true, Bool.and_eq_true, Bool.not_eq_true', List.isEmpty_eq_false_iff, or_assoc,
    and_comm]

theorem State.alert_iff : s.alert = true ↔ s.scheduler.timer ≠ .stopped ∧ s.alertCauses = true := by
  rw [State.alert, Bool.and_eq_true, Bool.not_eq_true', State.inReset, decide_eq_false_iff_not]

end

end Sys2Proof.Machine

namespace Sys2Proof.Proofs

open Sys2Proof.Machine

/-- Settles O46: the item by what its selector names, and the row by its four pairs of codes. -/
theorem readPlanReturnsAnItem : Obligations.ReadPlanReturnsAnItem := by
  refine ⟨fun s plan item check hplan hreceives => ?_, fun r => ?_⟩
  · refine ⟨fun b hitem => ?_, fun i hitem => ?_, fun hitem => ?_, fun hitem => ?_⟩
    · exact exec_readPlan_of_item hplan hreceives (planItem_of_row _ hitem)
    · exact exec_readPlan_of_item hplan hreceives (planItem_of_region _ hitem)
    · exact exec_readPlan_of_item hplan hreceives (planItem_of_geometry _ hitem)
    · exact exec_readPlan_of_item hplan hreceives (planItem_of_limits _ hitem)
  · intro value
    have hvalue : value = fun k => (r.codeAt k).value := by
      funext k
      simp only [value]
      cases r.codeAt k <;> rfl
    rw [hvalue, toNat_rowImage]

/-- Settles O53: each setting by its value, and ALERT by its causes. -/
theorem settingsAndAlert : Obligations.SettingsAndAlert := by
  refine fun s check => ⟨fun mask hmask hreceives => ?_, fun setting hsetting hreceives => ?_,
    State.alert_iff.trans (and_congr_right' State.alertCauses_iff)⟩
  · obtain ⟨hreceiver, hcheck⟩ := hreceives
    rw [exec, execSetAlertMask, State.takeFrame_of_right s hreceiver hcheck, State.writeMask_of_lt hmask]
    rfl
  · obtain ⟨hreceiver, hcheck⟩ := hreceives
    rw [exec, execSetStrobe, State.takeFrame_of_right s hreceiver hcheck, State.writeStrobe_of_lt hsetting]
    rfl

end Sys2Proof.Proofs
end

section
/-! SUPPORT. The fields of the status block as numbers, and what READ-STATUS clears (11 R176; 12 Table 12-7). The statement about it
(O51). -/

namespace Sys2Proof.Machine

/-! ### The ranges of the encodings (Table 12-7) -/

theorem CommitState.number_lt (c : CommitState) : c.number < 4 := by
  cases c <;> decide

theorem CommitOutcome.number_lt (o : CommitOutcome) : o.number < 8 := by
  cases o <;> simp only [CommitOutcome.number, Nat.reduceLT]

theorem SyncState.number_lt (u : SyncState) : u.number < 4 := by
  cases u <;> decide

theorem bitOf_true (place : Nat) : bitOf true place = 2 ^ place := rfl

theorem bitOf_false (place : Nat) : bitOf false place = 0 := rfl

/-! ### The bytes (Table 12-7) -/

/-- Byte 0: commit state, unreported flag, outcome. -/
theorem statusByte0_fields (c : CommitController) : (statusByte0 c).toNat % 4 = c.state.number
    ∧ ((statusByte0 c).toNat / 4 % 2 = 1 ↔ c.record.unreported = true)
    ∧ (statusByte0 c).toNat / 16 = (c.record.last.map fun o => o.1.number).getD 0 := by
  have hstate := c.state.number_lt
  have houtcome := getD_map_lt (f := fun o : CommitOutcome × CycleCount => o.1.number) (by decide) (fun o => o.1.number_lt)
    c.record.last
  cases hflag : c.record.unreported with
  | true =>
    rw [statusByte0, hflag, bitOf_true, toNat_byteOf_of_lt (by omega)]
    simp only [iff_true]
    omega
  | false =>
    rw [statusByte0, hflag, bitOf_false, toNat_byteOf_of_lt (by omega)]
    simp only [Bool.false_eq_true, iff_false]
    omega

/-- Bytes 1 and 2: reason and location, 0 unless REFUSED. -/
theorem CommitRecord.reasonAndLocation_eq (record : CommitRecord) : ∃ reason location : Byte,
    (record.last.map fun o => o.1.reasonAndLocation).getD [0, 0] = [reason, location]
    ∧ (reason.toNat, location.toNat) = match record.last with
      | some (.refused (.noRefresh b), _) => (1, 16 * rowNumber b)
      | some (.refused (.noTurnaround b k), _) => (2, (16 * rowNumber b + k) % 256)
      | some (.refused (.regionOrder i), _) => (3, i.val)
      | some (.refused (.regionRange i), _) => (4, i.val)
      | some (.refused (.mirrorSpan i), _) => (5, i.val)
      | _ => (0, 0) := by
  obtain ⟨last, _⟩ := record
  match last with
  | none | some (.swapped, _) | some (.abandoned, _) | some (.cancelled, _) | some (.abortedByReset, _) => exact ⟨0, 0, rfl, rfl⟩
  | some (.refused f, _) =>
    refine ⟨f.reason, f.location, rfl, ?_⟩
    cases f with
    | noRefresh b => exact congrArg (Prod.mk 1) (toNat_byteOf_of_lt (by have := rowNumber_lt b; omega))
    | noTurnaround b k => exact congrArg (Prod.mk 2) (toNat_byteOf _)
    | regionOrder i => exact congrArg (Prod.mk 3) (toNat_byteOf_of_lt (by omega))
    | regionRange i => exact congrArg (Prod.mk 4) (toNat_byteOf_of_lt (by omega))
    | mirrorSpan i => exact congrArg (Prod.mk 5) (toNat_byteOf_of_lt (by omega))

/-- Bytes 7 and 8: a count with an overflow flag at bit 7. -/
theorem toNat_countAndFlag {n : Nat} (hn : n < 128) (flag : Bool) :
    (byteOf (n + bitOf flag 7)).toNat = n + (if flag then 128 else 0) := by
  cases flag with
  | true => exact toNat_byteOf_of_lt (show n + 128 < 256 by omega)
  | false => exact toNat_byteOf_of_lt (show n < 256 by omega)

theorem countAndFlag_div {n : Nat} (hn : n < 128) (flag : Bool) :
    (byteOf (n + bitOf flag 7)).toNat / 128 = 1 ↔ flag = true := by
  rw [toNat_countAndFlag hn]
  cases flag with
  | true => exact iff_of_true (show (n + 128) / 128 = 1 by omega) rfl
  | false => exact iff_of_false (show ¬ n / 128 = 1 by omega) nofun

/-- A count below a power of two up to 128 stands in the bits below it. -/
theorem countAndFlag_mod {n m : Nat} (hn : n < m) (hm : m ∣ 128) (flag : Bool) :
    (byteOf (n + bitOf flag 7)).toNat % m = n := by
  rw [toNat_countAndFlag (lt_of_lt_of_le hn (Nat.le_of_dvd (by decide) hm))]
  cases flag with
  | true => rw [if_pos rfl, Nat.add_mod, Nat.mod_eq_zero_of_dvd hm, Nat.add_zero, Nat.mod_mod, Nat.mod_eq_of_lt hn]
  | false => exact Nat.mod_eq_of_lt hn

/-- Byte 11: the enables of the alert mask. -/
theorem AlertMask.image_fields (m : AlertMask) : (m.image.toNat % 2 = 1 ↔ m.fault = true)
    ∧ (m.image.toNat / 2 % 2 = 1 ↔ m.capture = true) ∧ (m.image.toNat / 4 = 1 ↔ m.commit = true) := by
  obtain ⟨fault, capture, commit⟩ := m
  revert fault capture commit
  decide

section
variable {s : State}

/-- The status block byte by byte. -/
theorem State.statusBlock_eq {reason location : Byte}
    (h : (s.commit.record.last.map fun o => o.1.reasonAndLocation).getD [0, 0] = [reason, location]) :
    s.statusBlock = [statusByte0 s.commit, reason, location,
      byteOf ((s.commit.record.last.map fun o => o.2.toNat).getD 0 / 256),
      byteOf ((s.commit.record.last.map fun o => o.2.toNat).getD 0),
      byteOf (s.sync.state.number + 4 * s.sync.missCount), byteOf s.sync.slipCount,
      byteOf (s.link.faults.length + bitOf s.link.faultOverflow 7),
      byteOf (s.sync.captures.length + bitOf s.sync.captureOverflow 7),
      byteOf (s.scheduler.cycleCount.toNat / 256), byteOf s.scheduler.cycleCount.toNat, s.link.alertMask.image] := by
  rw [State.statusBlock, h]
  rfl

theorem State.length_statusBlock (s : State) : s.statusBlock.length = 12 := by
  obtain ⟨reason, location, hbytes, -⟩ := s.commit.record.reasonAndLocation_eq
  rw [State.statusBlock_eq hbytes]
  rfl

/-- A right READ-STATUS frame returns the block and clears what it has reported (R176). -/
theorem exec_readStatus_of_receives {check : Byte} (h : s.Receives [0x01] check) :
    exec (.readStatus check) s = .next (s.clearReported.answer .ok s.statusBlock) := by
  obtain ⟨hreceiver, hcheck⟩ := h
  rw [exec, execReadStatus, State.takeFrame_of_right s hreceiver hcheck]

end

end Sys2Proof.Machine

namespace Sys2Proof.Proofs

open Sys2Proof.Machine

/-- Settles O51: READ-STATUS by its effect, and each byte of the block by its fields. -/
theorem readStatusAndItsBlock : Obligations.ReadStatusAndItsBlock := by
  refine ⟨fun s check hreceives => ⟨s.length_statusBlock, exec_readStatus_of_receives hreceives⟩,
    fun s hcapacity hcounters => ?_⟩
  obtain ⟨-, -, hfaults, hcaptures⟩ := hcapacity
  obtain ⟨-, -, -, hslip, hmiss⟩ := hcounters
  have hfaults : s.link.faults.length < 32 := Nat.lt_of_le_of_lt hfaults (by decide)
  have hcaptures : s.sync.captures.length < 8 := Nat.lt_of_le_of_lt hcaptures (by decide)
  have hsync := s.sync.state.number_lt
  obtain ⟨hstate, hunreported, houtcome⟩ := statusByte0_fields s.commit
  obtain ⟨reason, location, hbytes, hverdict⟩ := s.commit.record.reasonAndLocation_eq
  have hsyncByte : (byteOf (s.sync.state.number + 4 * s.sync.missCount)).toNat = s.sync.state.number + 4 * s.sync.missCount :=
    toNat_byteOf_of_lt (by omega)
  rw [State.statusBlock_eq hbytes]
  refine ⟨hstate, hunreported, houtcome.trans ?_, hverdict, fun o n hlast => ?_, fun hlast => ?_, ?_, ?_,
    toNat_byteOf_of_lt (Nat.lt_of_le_of_lt hslip (by decide)), countAndFlag_mod hfaults (by decide) _,
    countAndFlag_div (by omega) _, countAndFlag_mod hcaptures (by decide) _, countAndFlag_div (by omega) _,
    toNat_bytes16 s.scheduler.cycleCount.isLt, s.link.alertMask.image_fields⟩
  · match s.commit.record.last with
    | none | some (.swapped, _) | some (.refused _, _) | some (.abandoned, _) | some (.cancelled, _)
    | some (.abortedByReset, _) => rfl
  · rw [hlast]
    exact toNat_bytes16 n.isLt
  · rw [hlast]
    exact ⟨rfl, rfl⟩
  · exact (congrArg (· % 4) hsyncByte).trans (by omega)
  · exact (congrArg (· / 4) hsyncByte).trans (by omega)

end Sys2Proof.Proofs
end

section
/-! SUPPORT. TRAFFIC-RESET at the instant it takes effect, and the slot start that it takes first (11 R185, R16, R138; log entry 5).
The statement about it (O54). -/

namespace Sys2Proof.Machine

section
variable (s : State)

/-! ### The reset itself (R72, R93, R137, R185) -/

theorem State.endCommit_eq (o : CommitOutcome) : s.endCommit o = { s with
    commit := if s.commit.state = .none then s.commit else
      { s.commit with state := .none, record := ⟨some (o, s.scheduler.cycleCount), true⟩ } } := by
  unfold State.endCommit
  split <;> rfl

theorem State.trafficReset_eq : s.trafficReset = { s with
    scheduler := { s.scheduler with forcedDue := true }
    queues := ⟨[], [], [], []⟩
    ports := s.ports.map fun p => { p with completions := [] }
    mirrors := s.mirrors.map fun l => l.dropRecoveries none
    commit := if s.commit.state = .none then s.commit else
      { s.commit with state := .none, record := ⟨some (.abortedByReset, s.scheduler.cycleCount), true⟩ } } := by
  rw [State.trafficReset, State.endCommit_eq]
  rfl

/-! ### A slot start leaves the receiver alone (R173) -/

theorem State.loseLock_receiver : s.loseLock.link.receiver = s.link.receiver := by
  unfold State.loseLock
  split
  · exact LinkController.report_receiver _ _
  · rfl

theorem State.completeNoLink_receiver (n : PortId) : (s.completeNoLink n).link.receiver = s.link.receiver := by
  unfold State.completeNoLink
  split
  · exact LinkController.report_receiver _ _
  · rfl

theorem State.noLinkCompletions_receiver (turns : List PortId) :
    (s.noLinkCompletions turns).link.receiver = s.link.receiver := by
  have fold {α : Type} {f : State → α → State} (step : ∀ t a, (f t a).link.receiver = t.link.receiver) (l : List α) (t : State) :
      (l.foldl f t).link.receiver = t.link.receiver :=
    foldl_of_step (R := fun t u => u.link.receiver = t.link.receiver) (fun _ => rfl) (fun h k => k.trans h) step l t
  have port (t : State) (n : PortId) : (t.completeNoLinks n).link.receiver = t.link.receiver :=
    fold (fun t _ => t.completeNoLink_receiver n) _ t
  exact (fold port allPorts _).trans (fold State.completeNoLink_receiver turns s)

theorem State.swap_receiver (turns : List PortId) : (s.swap turns).link.receiver = s.link.receiver := by
  unfold State.swap
  dsimp only
  split
  · exact s.loseLock_receiver
  · exact (State.noLinkCompletions_receiver _ turns).trans s.loseLock_receiver

theorem State.commitReaction_receiver (turns : List PortId) : (s.commitReaction turns).link.receiver = s.link.receiver := by
  unfold State.commitReaction
  split
  · exact s.swap_receiver turns
  · split
    · rfl
    · split <;> rfl

theorem State.startIfDue_receiver : s.startIfDue.link.receiver = s.link.receiver := by
  have hbanks := (State.decideBanks_frame (s.loseLock.commitReaction []).openFreedPlaces allBanks).link
  unfold State.startIfDue
  split
  · exact (congrArg LinkController.receiver hbanks).trans ((State.commitReaction_receiver _ []).trans s.loseLock_receiver)
  · rfl

/-! ### The slot start that is taken first (log entry 5) -/

variable {s}

theorem State.startIfDue_of_not_starting (h : s.scheduler.timer ≠ .starting) : s.startIfDue = s := if_neg h

/-- A slot is started once. -/
theorem State.startIfDue_startIfDue (s : State) : s.startIfDue.startIfDue = s.startIfDue := by
  refine State.startIfDue_of_not_starting ?_
  unfold State.startIfDue
  split
  · rw [State.startSlot_timer]
    nofun
  · assumption

theorem exec_trafficReset_of_receives {check : Byte} (h : s.Receives [0x3C] check) :
    exec (.trafficReset check) s = .next (s.startIfDue.trafficReset.answer .ok []) := by
  obtain ⟨hreceiver, hcheck⟩ := h
  rw [exec, execTrafficReset, State.takeFrame_of_right s hreceiver hcheck]
  rfl

end

end Sys2Proof.Machine

namespace Sys2Proof.Proofs

open Sys2Proof.Machine

/-- Settles O54: the reset of a slot in progress, and the slot start that is the same whether it is commanded or taken first. -/
theorem trafficReset : Obligations.TrafficReset := by
  refine ⟨fun s check hreceives ht => ?_, fun s u check hreceives hstart => ?_⟩
  · intro removed
    have hremoved : removed = fun e => e.recoveryOf none := funext fun e => (BacklogEntry.recoveryOf_none e).symm
    rw [exec_trafficReset_of_receives hreceives, State.startIfDue_of_not_starting ht, State.trafficReset_eq, hremoved]
    rfl
  · obtain ⟨hreceiver, hcheck⟩ := hreceives
    obtain rfl : s.startIfDue = u := by
      cases hstart
      rfl
    rw [exec_trafficReset_of_receives ⟨hreceiver, hcheck⟩,
      exec_trafficReset_of_receives ⟨s.startIfDue_receiver.trans hreceiver, hcheck⟩, State.startIfDue_startIfDue]

end Sys2Proof.Proofs
end

section
/-! SUPPORT. The bytes of a region image and of a geometry image, read back (12 R189, Table 12-6). The statement about them (O47). -/

namespace Sys2Proof.Machine

/-! ### A number and a pair of port sets in bytes (R189, Table 12-6) -/

theorem word16_bytes (v : BitVec 16) : word16 (byteOf (v.toNat / 256)) (byteOf v.toNat) = v :=
  BitVec.eq_of_toNat_eq ((toNat_word16 _ _).trans (toNat_bytes16 v.isLt))

/-- Two port sets stand in one byte, the first in its high four bits. -/
theorem byteOf_portSets (high low : BitVec 4) : byteOf (16 * high.toNat + low.toNat) = high ++ low := by
  refine BitVec.eq_of_toNat_eq ?_
  rw [toNat_byteOf_of_lt (by omega), BitVec.toNat_append, ← Nat.shiftLeft_add_eq_or_of_lt low.isLt, Nat.shiftLeft_eq,
    Nat.mul_comm]

theorem portSets_fields (high low : BitVec 4) : (byteOf (16 * high.toNat + low.toNat)).extractLsb' 4 4 = high
    ∧ (byteOf (16 * high.toNat + low.toNat)).extractLsb' 0 4 = low := by
  rw [byteOf_portSets]
  exact ⟨BitVec.extractLsb'_append_eq_left, BitVec.extractLsb'_append_eq_right⟩

/-! ### The flag bytes (Table 12-6) -/

/-- Byte 4 of a region image. -/
theorem regionFlags_fields (enabled mirror : Bool) : (byteOf (bitOf enabled 0 + bitOf mirror 1)).toNat < 4
    ∧ (byteOf (bitOf enabled 0 + bitOf mirror 1)).getLsbD 0 = enabled
    ∧ (byteOf (bitOf enabled 0 + bitOf mirror 1)).getLsbD 1 = mirror := by
  revert enabled mirror
  decide

/-- Byte 1 of a geometry image. -/
def GeneralFields.flags (f : GeneralFields) : Byte :=
  byteOf (bitOf f.geometry.split 0 + bitOf (decide (f.geometry.size = .mib128)) 1
    + bitOf (decide (f.geometry.kind = .static)) 2 + bitOf f.syncEnable 3 + bitOf (decide (f.defaultPolicy = .deny)) 4)

theorem geometryImage_eq (f : GeneralFields) : geometryImage f =
    [byteOf f.geometry.cycleLength.slots, f.flags, byteOf (f.drainLimit / 256), byteOf f.drainLimit] := rfl

/-- A byte of five flags, whatever fields they stand for. -/
theorem fiveFlags_bits (a b c d e : Bool) :
    ∃ v, byteOf (bitOf a 0 + bitOf b 1 + bitOf c 2 + bitOf d 3 + bitOf e 4) = v ∧ v.toNat < 32 ∧ v.getLsbD 0 = a
      ∧ v.getLsbD 1 = b ∧ v.getLsbD 2 = c ∧ v.getLsbD 3 = d ∧ v.getLsbD 4 = e := by
  refine ⟨_, rfl, ?_⟩
  revert a b c d e
  decide

theorem GeneralFields.flags_fields (f : GeneralFields) : f.flags.toNat < 32 ∧ f.flags.getLsbD 0 = f.geometry.split
    ∧ (if f.flags.getLsbD 1 then .mib128 else .mib64) = f.geometry.size
    ∧ (if f.flags.getLsbD 2 then .static else .dynamic) = f.geometry.kind ∧ f.flags.getLsbD 3 = f.syncEnable
    ∧ (if f.flags.getLsbD 4 then .deny else .allow) = f.defaultPolicy := by
  obtain ⟨v, hv, hlt, hsplit, hsize, hkind, hsync, hpolicy⟩ := fiveFlags_bits f.geometry.split
    (decide (f.geometry.size = .mib128)) (decide (f.geometry.kind = .static)) f.syncEnable (decide (f.defaultPolicy = .deny))
  rw [GeneralFields.flags, hv, hsize, hkind, hpolicy]
  refine ⟨hlt, hsplit, ?_, ?_, hsync, ?_⟩
  · cases f.geometry.size <;> rfl
  · cases f.geometry.kind <;> rfl
  · cases f.defaultPolicy <;> rfl

/-! ### The images, read back -/

/-- A region image describes the entry it was made from. -/
theorem regionOfImage_regionImage (e : RegionEntry) :
    ∃ image : Vector Byte 6, image.toList = regionImage e ∧ regionOfImage image = some e := by
  obtain ⟨enabled, base, limit, readPorts, writePorts, mirror⟩ := e
  obtain ⟨hflags, henabled, hmirror⟩ := regionFlags_fields enabled mirror
  obtain ⟨hread, hwrite⟩ := portSets_fields readPorts writePorts
  refine ⟨⟨⟨regionImage _⟩, rfl⟩, rfl, (if_pos hflags).trans (congrArg some ?_)⟩
  rw [RegionEntry.mk.injEq]
  exact ⟨henabled, word16_bytes base, word16_bytes limit, hread, hwrite, hmirror⟩

/-- A geometry image describes the fields it was made from, when the drain limit is in range. -/
theorem generalOfImage_geometryImage (f : GeneralFields) (hlow : 1 ≤ f.drainLimit) (hhigh : f.drainLimit ≤ 4095) :
    ∃ image : Vector Byte 4, image.toList = geometryImage f ∧ generalOfImage image = some f := by
  obtain ⟨hflags, hsplit, hsize, hkind, hsync, hpolicy⟩ := f.flags_fields
  have hlength : (byteOf f.geometry.cycleLength.slots).toNat = f.geometry.cycleLength.slots := by
    cases f.geometry.cycleLength <;> rfl
  have hlimit : 256 * (byteOf (f.drainLimit / 256)).toNat + (byteOf f.drainLimit).toNat = f.drainLimit :=
    toNat_bytes16 (by omega)
  rw [geometryImage_eq]
  refine ⟨#v[byteOf f.geometry.cycleLength.slots, f.flags, byteOf (f.drainLimit / 256), byteOf f.drainLimit], rfl,
    (generalOfImage_eq hlength hflags (hlow.trans_eq hlimit.symm) (hlimit.trans_le hhigh)).trans (congrArg some ?_)⟩
  obtain ⟨⟨length, split, size, kind⟩, syncEnable, policy, limit⟩ := f
  rw [GeneralFields.mk.injEq, Geometry.mk.injEq]
  exact ⟨⟨rfl, hsplit, hsize, hkind⟩, hsync, hpolicy, hlimit⟩

end Sys2Proof.Machine

namespace Sys2Proof.Proofs

open Sys2Proof.Machine

/-- Settles O47: each image is read back field by field. -/
theorem planImagesRoundTrip : Obligations.PlanImagesRoundTrip :=
  ⟨regionOfImage_regionImage, fun p ⟨hlow, hhigh⟩ => generalOfImage_geometryImage p.general hlow hhigh⟩

end Sys2Proof.Proofs
end

section
/-! SUPPORT. A step by the queue of waiting commands (00_scope.md 2.3; log entry 2), and the two statements about it (O1, O2). -/

namespace Sys2Proof.Machine

variable {s : State}

theorem step_of_pending_eq_nil (h : s.pending = []) : step s = .next s := by
  unfold step
  rw [h]

theorem step_of_pending_eq_cons {c : Instr} {rest : List Instr} (h : s.pending = c :: rest) :
    step s = exec c { s with pending := rest } := by
  unfold step
  rw [h]

end Sys2Proof.Machine

namespace Sys2Proof.Proofs

open Sys2Proof.Machine

/-- Settles O1: the queue is not empty, and its rest replaces the whole queue. -/
theorem stepRunsTheFrontCommand : Obligations.StepRunsTheFrontCommand :=
  fun c rest s => step_of_pending_eq_cons (s := { s with pending := c :: rest }) rfl

/-- Settles O2: an empty queue has no front command. -/
theorem emptyQueueIdles : Obligations.EmptyQueueIdles := fun _ h => step_of_pending_eq_nil h

end Sys2Proof.Proofs
end
